-- ==== Sys2Proof/Word.lean ====
section
/-! DEFINITION. The bit patterns of the block: 32-bit data words, 16-bit register patterns, 8-bit
codes, 7-bit register indices and 40-bit request words (spec/10_state.md R20, spec/30_encoding.md R90). -/

namespace Sys2Proof

/-- A 32-bit pattern: the DATA field of a request, a response, UP, B5, T and P (R20, R61, R90). -/
abbrev Word := BitVec 32

/-- A 16-bit pattern: the eleven coefficient registers and UT (R20). -/
abbrev Half := BitVec 16

/-- An 8-bit pattern: a command code, DATA[7:0] of a write to CMD (R26, R164). -/
abbrev Code := BitVec 8

/-- A 7-bit register index, the IDX field of a request (R20, R90). -/
abbrev RegIndex := BitVec 7

/-- One request: a 40-bit word `{W[39], IDX[38:32], DATA[31:0]}` (R90). -/
abbrev Request := BitVec 40

end Sys2Proof
end

