-- ==== Sys2Proof/Config.lean ====
section
/-! DEFINITION. What is fixed for one block and is not state (spec/10_state.md R35): the names of the
registers and their types, the hardwired oversampling setting, and the OPEN latencies, which the
signal-level layer takes as an argument (spec/00_scope.md R5). There is no free value: the spec gives
every result of every request. -/

namespace Sys2Proof

/-- The eighteen registers by name, in the order of their indices 0 to 17 (R20). -/
inductive Reg where
  | ac1 | ac2 | ac3 | ac4 | ac5 | ac6 | b1 | b2 | mb | mc | md
  | ut | up | b5 | t | p | cmd | status
  deriving DecidableEq, Repr

/-- The type column of R20: two's-complement or unsigned value of 16 or 32 bits, the write-only
command port, or the eight flags. -/
inductive RegType where
  | s16 | u16 | s32 | port | flags8
  deriving DecidableEq, Repr

/-- The host-access column of R20. -/
inductive Access where
  | readWrite | readOnly | writeStartsCommand
  deriving DecidableEq, Repr

/-- OSS, the oversampling setting, hardwired to 0 (R5). -/
def Config.oss : Nat := 0

/-- The OPEN latencies of R5 and R62: how many clock cycles a register access, a TEMP and a PRES take
from acceptance to completion. -/
structure Latencies where
  latReg  : Nat
  latTemp : Nat
  latPres : Nat
  deriving DecidableEq, Repr

/-- R5: each latency is a positive integer. -/
abbrev Latencies.Positive (lat : Latencies) : Prop :=
  0 < lat.latReg ∧ 0 < lat.latTemp ∧ 0 < lat.latPres

end Sys2Proof
end

