-- ==== Sys2Proof/Syntax.lean ====
section
/-! DEFINITION. The instructions of the block: one constructor per row of spec/opcode_table.json
(spec/30_encoding.md R96). A WR carries the whole 32-bit DATA field as its operand; DATA of a RD and
DATA[31:8] of a command are ignored by the block and are no operands (R91, R98). -/

namespace Sys2Proof

/-- The 36 rows of R96. -/
inductive Instr where
  /-- `RD AC1`: read the register (R161). -/
  | rdAc1
  /-- `RD AC2`: read the register (R161). -/
  | rdAc2
  /-- `RD AC3`: read the register (R161). -/
  | rdAc3
  /-- `RD AC4`: read the register (R161). -/
  | rdAc4
  /-- `RD AC5`: read the register (R161). -/
  | rdAc5
  /-- `RD AC6`: read the register (R161). -/
  | rdAc6
  /-- `RD B1`: read the register (R161). -/
  | rdB1
  /-- `RD B2`: read the register (R161). -/
  | rdB2
  /-- `RD MB`: read the register (R161). -/
  | rdMb
  /-- `RD MC`: read the register (R161). -/
  | rdMc
  /-- `RD MD`: read the register (R161). -/
  | rdMd
  /-- `RD UT`: read the register (R161). -/
  | rdUt
  /-- `RD UP`: read the register (R161). -/
  | rdUp
  /-- `RD B5`: read the register (R161). -/
  | rdB5
  /-- `RD T`: read the register (R161). -/
  | rdT
  /-- `RD P`: read the register (R161). -/
  | rdP
  /-- `RD CMD`: read the register (R161). -/
  | rdCmd
  /-- `RD STATUS`: read the register (R161). -/
  | rdStatus
  /-- `WR AC1, value`: write the register (R162). -/
  | wrAc1 (value : Word)
  /-- `WR AC2, value`: write the register (R162). -/
  | wrAc2 (value : Word)
  /-- `WR AC3, value`: write the register (R162). -/
  | wrAc3 (value : Word)
  /-- `WR AC4, value`: write the register (R162). -/
  | wrAc4 (value : Word)
  /-- `WR AC5, value`: write the register (R162). -/
  | wrAc5 (value : Word)
  /-- `WR AC6, value`: write the register (R162). -/
  | wrAc6 (value : Word)
  /-- `WR B1, value`: write the register (R162). -/
  | wrB1 (value : Word)
  /-- `WR B2, value`: write the register (R162). -/
  | wrB2 (value : Word)
  /-- `WR MB, value`: write the register (R162). -/
  | wrMb (value : Word)
  /-- `WR MC, value`: write the register (R162). -/
  | wrMc (value : Word)
  /-- `WR MD, value`: write the register (R162). -/
  | wrMd (value : Word)
  /-- `WR UT, value`: write the register (R162). -/
  | wrUt (value : Word)
  /-- `WR UP, value`: write the register (R162). -/
  | wrUp (value : Word)
  /-- `WR B5, value`: write the register (R162). -/
  | wrB5 (value : Word)
  /-- `NOP`: do nothing (R165). -/
  | nop
  /-- `TEMP`: convert the raw temperature (R190). -/
  | temp
  /-- `PRES`: convert the raw pressure (R220). -/
  | pres
  /-- `CLR`: clear the error and sticky flags (R166). -/
  | clr
  deriving DecidableEq, Repr

end Sys2Proof
end

