-- ==== Sys2Proof/WellFormed.lean ====
section
/-! DEFINITION. Well-formedness of an instruction. Every operand of `Instr` has exactly the type of the
field that holds it (a 32-bit DATA, spec/30_encoding.md R90, R95), so no instruction is ill-formed:
the check holds of every constructor. The checks that can fail are those of an assembler line, where
registers are numbers and values are integers: `AsmLine.wf` in Machine/Assembler.lean (R100). -/

namespace Sys2Proof

/-- R95: WR takes any 32-bit DATA; no other instruction has an operand. -/
def Instr.wf : Instr → Bool
  | .rdAc1 => true
  | .rdAc2 => true
  | .rdAc3 => true
  | .rdAc4 => true
  | .rdAc5 => true
  | .rdAc6 => true
  | .rdB1 => true
  | .rdB2 => true
  | .rdMb => true
  | .rdMc => true
  | .rdMd => true
  | .rdUt => true
  | .rdUp => true
  | .rdB5 => true
  | .rdT => true
  | .rdP => true
  | .rdCmd => true
  | .rdStatus => true
  | .wrAc1 _ => true
  | .wrAc2 _ => true
  | .wrAc3 _ => true
  | .wrAc4 _ => true
  | .wrAc5 _ => true
  | .wrAc6 _ => true
  | .wrB1 _ => true
  | .wrB2 _ => true
  | .wrMb _ => true
  | .wrMc _ => true
  | .wrMd _ => true
  | .wrUt _ => true
  | .wrUp _ => true
  | .wrB5 _ => true
  | .nop => true
  | .temp => true
  | .pres => true
  | .clr => true

/-- The proposition form of `Instr.wf`. -/
abbrev Instr.WellFormed (i : Instr) : Prop := i.wf = true

end Sys2Proof
end

