-- ==== Sys2Proof/Decode.lean ====
section
/-! DEFINITION. The request decoder, total on every 40-bit word, the encoder, and the match and mask
columns of the opcode table (spec/30_encoding.md R90, R91, R96, R97). A word that is no instruction is
rejected by the name of its part of the reserved space. -/

namespace Sys2Proof

/-! ## Fields of a request (R90) -/

/-- W, bit 39: 1 for a write, 0 for a read. -/
def Request.isWrite (w : Request) : Bool := w.getLsbD 39

/-- IDX, bits 38:32. -/
def Request.idx (w : Request) : RegIndex := w.extractLsb' 32 7

/-- DATA, bits 31:0. -/
def Request.data (w : Request) : Word := w.extractLsb' 0 32

/-- The command code, DATA[7:0] (R91, R164). -/
def Word.code (d : Word) : Code := d.extractLsb' 0 8

/-- The request word with the given fields (R90). -/
def Request.mk (isWrite : Bool) (idx : RegIndex) (data : Word) : Request :=
  (BitVec.ofBool isWrite ++ idx) ++ data

/-! ## The register map (R20, R69) -/

/-- The index column of R20. -/
def Reg.index : Reg → RegIndex
  | .ac1 => 0#7
  | .ac2 => 1#7
  | .ac3 => 2#7
  | .ac4 => 3#7
  | .ac5 => 4#7
  | .ac6 => 5#7
  | .b1 => 6#7
  | .b2 => 7#7
  | .mb => 8#7
  | .mc => 9#7
  | .md => 10#7
  | .ut => 11#7
  | .up => 12#7
  | .b5 => 13#7
  | .t => 14#7
  | .p => 15#7
  | .cmd => 16#7
  | .status => 17#7

/-- The register an index names; `none` for the reserved indices 18 to 127 (R29, R65). -/
def Reg.ofIndex (i : RegIndex) : Option Reg :=
  match i.toNat with
  | 0 => some .ac1
  | 1 => some .ac2
  | 2 => some .ac3
  | 3 => some .ac4
  | 4 => some .ac5
  | 5 => some .ac6
  | 6 => some .b1
  | 7 => some .b2
  | 8 => some .mb
  | 9 => some .mc
  | 10 => some .md
  | 11 => some .ut
  | 12 => some .up
  | 13 => some .b5
  | 14 => some .t
  | 15 => some .p
  | 16 => some .cmd
  | 17 => some .status
  | _ => none

/-! ## The reserved space (R97) -/

/-- The four parts of the reserved space (R97): why a word is no instruction. -/
inductive Reserved where
  /-- RD of an index in 18..127. -/
  | readIndex (idx : RegIndex)
  /-- WR to T, P or STATUS (R163). -/
  | writeReadOnly (idx : RegIndex)
  /-- WR to an index in 18..127. -/
  | writeIndex (idx : RegIndex)
  /-- A command code in 0x04..0xFF. -/
  | commandCode (code : Code)
  deriving DecidableEq, Repr

/-- Whether the reserved word has W = 0, so that it is answered with 0x0000_0000 (R97, R167). -/
def Reserved.isRead : Reserved → Bool
  | .readIndex _ => true
  | .writeReadOnly _ => false
  | .writeIndex _ => false
  | .commandCode _ => false

/-! ## The decoder (R96, R97) -/

/-- The RD-shape: every register can be read (R161). -/
def decodeRead : Reg → Instr
  | .ac1 => .rdAc1
  | .ac2 => .rdAc2
  | .ac3 => .rdAc3
  | .ac4 => .rdAc4
  | .ac5 => .rdAc5
  | .ac6 => .rdAc6
  | .b1 => .rdB1
  | .b2 => .rdB2
  | .mb => .rdMb
  | .mc => .rdMc
  | .md => .rdMd
  | .ut => .rdUt
  | .up => .rdUp
  | .b5 => .rdB5
  | .t => .rdT
  | .p => .rdP
  | .cmd => .rdCmd
  | .status => .rdStatus

/-- The CMD-shape: the code is compared for equality with the four codes of R96. -/
def decodeCommand (c : Code) : Except Reserved Instr :=
  match c.toNat with
  | 0 => .ok .nop
  | 1 => .ok .temp
  | 2 => .ok .pres
  | 3 => .ok .clr
  | _ => .error (.commandCode c)

/-- The WR-shape and the CMD-shape (R91, R162, R163). -/
def decodeWrite (r : Reg) (d : Word) : Except Reserved Instr :=
  match r with
  | .ac1 => .ok (.wrAc1 d)
  | .ac2 => .ok (.wrAc2 d)
  | .ac3 => .ok (.wrAc3 d)
  | .ac4 => .ok (.wrAc4 d)
  | .ac5 => .ok (.wrAc5 d)
  | .ac6 => .ok (.wrAc6 d)
  | .b1 => .ok (.wrB1 d)
  | .b2 => .ok (.wrB2 d)
  | .mb => .ok (.wrMb d)
  | .mc => .ok (.wrMc d)
  | .md => .ok (.wrMd d)
  | .ut => .ok (.wrUt d)
  | .up => .ok (.wrUp d)
  | .b5 => .ok (.wrB5 d)
  | .t => .error (.writeReadOnly (Reg.index .t))
  | .p => .error (.writeReadOnly (Reg.index .p))
  | .cmd => decodeCommand d.code
  | .status => .error (.writeReadOnly (Reg.index .status))

/-- Decoding one request word: the instruction of its row (R96), or its part of the reserved space
(R97). -/
def decode (w : Request) : Except Reserved Instr :=
  match Request.isWrite w, Reg.ofIndex (Request.idx w) with
  | false, some r => .ok (decodeRead r)
  | false, none => .error (.readIndex (Request.idx w))
  | true, some r => decodeWrite r (Request.data w)
  | true, none => .error (.writeIndex (Request.idx w))

/-- The host's view of the decoder: `w` holds the `nbits` low bits of a request word numbered as R90
numbers them, every higher bit 0. A number of more than 40 bits is no request. -/
def decodeTableWord (nbits w : Nat) : Option Instr :=
  let bits := w % 2 ^ nbits
  if bits < 2 ^ 40 then
    match decode (BitVec.ofNat 40 bits) with
    | .ok i => some i
    | .error _ => none
  else none

/-! ## The encoder (R90, R96; an assembler emits zeros in ignored bits, R98) -/

/-- The request word of an instruction. -/
def encode : Instr → Request
  | .rdAc1 => Request.mk false (Reg.index .ac1) 0#32
  | .rdAc2 => Request.mk false (Reg.index .ac2) 0#32
  | .rdAc3 => Request.mk false (Reg.index .ac3) 0#32
  | .rdAc4 => Request.mk false (Reg.index .ac4) 0#32
  | .rdAc5 => Request.mk false (Reg.index .ac5) 0#32
  | .rdAc6 => Request.mk false (Reg.index .ac6) 0#32
  | .rdB1 => Request.mk false (Reg.index .b1) 0#32
  | .rdB2 => Request.mk false (Reg.index .b2) 0#32
  | .rdMb => Request.mk false (Reg.index .mb) 0#32
  | .rdMc => Request.mk false (Reg.index .mc) 0#32
  | .rdMd => Request.mk false (Reg.index .md) 0#32
  | .rdUt => Request.mk false (Reg.index .ut) 0#32
  | .rdUp => Request.mk false (Reg.index .up) 0#32
  | .rdB5 => Request.mk false (Reg.index .b5) 0#32
  | .rdT => Request.mk false (Reg.index .t) 0#32
  | .rdP => Request.mk false (Reg.index .p) 0#32
  | .rdCmd => Request.mk false (Reg.index .cmd) 0#32
  | .rdStatus => Request.mk false (Reg.index .status) 0#32
  | .wrAc1 v => Request.mk true (Reg.index .ac1) v
  | .wrAc2 v => Request.mk true (Reg.index .ac2) v
  | .wrAc3 v => Request.mk true (Reg.index .ac3) v
  | .wrAc4 v => Request.mk true (Reg.index .ac4) v
  | .wrAc5 v => Request.mk true (Reg.index .ac5) v
  | .wrAc6 v => Request.mk true (Reg.index .ac6) v
  | .wrB1 v => Request.mk true (Reg.index .b1) v
  | .wrB2 v => Request.mk true (Reg.index .b2) v
  | .wrMb v => Request.mk true (Reg.index .mb) v
  | .wrMc v => Request.mk true (Reg.index .mc) v
  | .wrMd v => Request.mk true (Reg.index .md) v
  | .wrUt v => Request.mk true (Reg.index .ut) v
  | .wrUp v => Request.mk true (Reg.index .up) v
  | .wrB5 v => Request.mk true (Reg.index .b5) v
  | .nop => Request.mk true (Reg.index .cmd) 0#32
  | .temp => Request.mk true (Reg.index .cmd) 1#32
  | .pres => Request.mk true (Reg.index .cmd) 2#32
  | .clr => Request.mk true (Reg.index .cmd) 3#32

/-! ## The match and mask columns of R96 -/

/-- The match column of the instruction's row. -/
def Instr.opMatch : Instr → Request
  | .rdAc1 => 0x0000000000#40
  | .rdAc2 => 0x0100000000#40
  | .rdAc3 => 0x0200000000#40
  | .rdAc4 => 0x0300000000#40
  | .rdAc5 => 0x0400000000#40
  | .rdAc6 => 0x0500000000#40
  | .rdB1 => 0x0600000000#40
  | .rdB2 => 0x0700000000#40
  | .rdMb => 0x0800000000#40
  | .rdMc => 0x0900000000#40
  | .rdMd => 0x0A00000000#40
  | .rdUt => 0x0B00000000#40
  | .rdUp => 0x0C00000000#40
  | .rdB5 => 0x0D00000000#40
  | .rdT => 0x0E00000000#40
  | .rdP => 0x0F00000000#40
  | .rdCmd => 0x1000000000#40
  | .rdStatus => 0x1100000000#40
  | .wrAc1 _ => 0x8000000000#40
  | .wrAc2 _ => 0x8100000000#40
  | .wrAc3 _ => 0x8200000000#40
  | .wrAc4 _ => 0x8300000000#40
  | .wrAc5 _ => 0x8400000000#40
  | .wrAc6 _ => 0x8500000000#40
  | .wrB1 _ => 0x8600000000#40
  | .wrB2 _ => 0x8700000000#40
  | .wrMb _ => 0x8800000000#40
  | .wrMc _ => 0x8900000000#40
  | .wrMd _ => 0x8A00000000#40
  | .wrUt _ => 0x8B00000000#40
  | .wrUp _ => 0x8C00000000#40
  | .wrB5 _ => 0x8D00000000#40
  | .nop => 0x9000000000#40
  | .temp => 0x9000000001#40
  | .pres => 0x9000000002#40
  | .clr => 0x9000000003#40

/-- The mask column of the instruction's row: the first byte, and DATA[7:0] too for a command. -/
def Instr.opMask : Instr → Request
  | .rdAc1 => 0xFF00000000#40
  | .rdAc2 => 0xFF00000000#40
  | .rdAc3 => 0xFF00000000#40
  | .rdAc4 => 0xFF00000000#40
  | .rdAc5 => 0xFF00000000#40
  | .rdAc6 => 0xFF00000000#40
  | .rdB1 => 0xFF00000000#40
  | .rdB2 => 0xFF00000000#40
  | .rdMb => 0xFF00000000#40
  | .rdMc => 0xFF00000000#40
  | .rdMd => 0xFF00000000#40
  | .rdUt => 0xFF00000000#40
  | .rdUp => 0xFF00000000#40
  | .rdB5 => 0xFF00000000#40
  | .rdT => 0xFF00000000#40
  | .rdP => 0xFF00000000#40
  | .rdCmd => 0xFF00000000#40
  | .rdStatus => 0xFF00000000#40
  | .wrAc1 _ => 0xFF00000000#40
  | .wrAc2 _ => 0xFF00000000#40
  | .wrAc3 _ => 0xFF00000000#40
  | .wrAc4 _ => 0xFF00000000#40
  | .wrAc5 _ => 0xFF00000000#40
  | .wrAc6 _ => 0xFF00000000#40
  | .wrB1 _ => 0xFF00000000#40
  | .wrB2 _ => 0xFF00000000#40
  | .wrMb _ => 0xFF00000000#40
  | .wrMc _ => 0xFF00000000#40
  | .wrMd _ => 0xFF00000000#40
  | .wrUt _ => 0xFF00000000#40
  | .wrUp _ => 0xFF00000000#40
  | .wrB5 _ => 0xFF00000000#40
  | .nop => 0xFF000000FF#40
  | .temp => 0xFF000000FF#40
  | .pres => 0xFF000000FF#40
  | .clr => 0xFF000000FF#40

/-- The instruction with its operand, where it has one, replaced by `d`. -/
def Instr.withValue : Instr → Word → Instr
  | .rdAc1, _ => .rdAc1
  | .rdAc2, _ => .rdAc2
  | .rdAc3, _ => .rdAc3
  | .rdAc4, _ => .rdAc4
  | .rdAc5, _ => .rdAc5
  | .rdAc6, _ => .rdAc6
  | .rdB1, _ => .rdB1
  | .rdB2, _ => .rdB2
  | .rdMb, _ => .rdMb
  | .rdMc, _ => .rdMc
  | .rdMd, _ => .rdMd
  | .rdUt, _ => .rdUt
  | .rdUp, _ => .rdUp
  | .rdB5, _ => .rdB5
  | .rdT, _ => .rdT
  | .rdP, _ => .rdP
  | .rdCmd, _ => .rdCmd
  | .rdStatus, _ => .rdStatus
  | .wrAc1 _, d => .wrAc1 d
  | .wrAc2 _, d => .wrAc2 d
  | .wrAc3 _, d => .wrAc3 d
  | .wrAc4 _, d => .wrAc4 d
  | .wrAc5 _, d => .wrAc5 d
  | .wrAc6 _, d => .wrAc6 d
  | .wrB1 _, d => .wrB1 d
  | .wrB2 _, d => .wrB2 d
  | .wrMb _, d => .wrMb d
  | .wrMc _, d => .wrMc d
  | .wrMd _, d => .wrMd d
  | .wrUt _, d => .wrUt d
  | .wrUp _, d => .wrUp d
  | .wrB5 _, d => .wrB5 d
  | .nop, _ => .nop
  | .temp, _ => .temp
  | .pres, _ => .pres
  | .clr, _ => .clr

end Sys2Proof
end

