-- ==== Sys2Proof/Machine/State.lean ====
section
/-! DEFINITION. The state of one block: the register file of spec/10_state.md R20 as band1's data model
groups it (the coefficient set, the sample, B5 and the two results), the eight STATUS flags of R28, and
two fields of the MODEL's own for the host's side of the port: what the host has still to offer
(R30, R35: "the host's request sequence is the model's input") and the responses delivered so far
(R61). CMD holds nothing (R26) and has no field. All of it is plain data. -/

namespace Sys2Proof.Machine

/-- CalibrationCoefficients (R21): the eleven 16-bit coefficient registers, indices 0 to 10. A pattern
is kept; its typed value is signed but for AC4, AC5 and AC6 (Operands.lean). -/
structure Coefficients where
  ac1 : Half
  ac2 : Half
  ac3 : Half
  ac4 : Half
  ac5 : Half
  ac6 : Half
  b1 : Half
  b2 : Half
  mb : Half
  mc : Half
  md : Half
  deriving DecidableEq, Repr

/-- STATUS (R27, R28): eight one-bit flags, bit 0 first. -/
structure Status where
  tv : Bool
  pv : Bool
  terr : Bool
  perr : Bool
  b7hi : Bool
  ovf : Bool
  unf : Bool
  ill : Bool
  deriving DecidableEq, Repr

/-- What happens next at the port, as the host drives it. -/
inductive PortEvent where
  /-- The host offers a request word and the block accepts it (R60, R62). -/
  | request (w : Request)
  /-- `rst` is asserted and released (R301); `inProgress` is a request that had been accepted and was
  not complete when `rst` rose, which is abandoned without a response. -/
  | reset (inProgress : Option Request)
  deriving DecidableEq, Repr

/-- The state of one block (R20) with the host's side of its port. -/
structure State where
  /-- AC1 to MD, indices 0 to 10 (R21, R22). -/
  cal : Coefficients
  /-- UT, index 11: the raw temperature, s16 (R23). -/
  ut : Half
  /-- UP, index 12: the raw pressure, s32 (R23). -/
  up : Word
  /-- B5, index 13: the intermediate, s32 (R24). -/
  b5 : Word
  /-- T, index 14: the temperature in tenths of a degree Celsius, s32 (R25). -/
  t : Word
  /-- P, index 15: the pressure in pascals, s32 (R25). -/
  p : Word
  /-- STATUS, index 17 (R27, R28). -/
  status : Status
  /-- The MODEL's own: what the host still does at the port, first event first (R30, R35). -/
  port : List PortEvent
  /-- The MODEL's own: the responses delivered so far, first response first (R61). -/
  responses : List Word
  deriving DecidableEq, Repr

/-- Why a step stops with a fault. There is no such reason: a CalibrationError is recorded in STATUS and
the request completes normally (R274), a reserved word sets ILL (R167), and every request has exactly
one outcome that leaves the block ready for the next (R160). So the type has no constructor. -/
inductive Fault
  deriving DecidableEq, Repr

/-- Why a step is refused. -/
inductive Refusal where
  /-- Raised only by an arm of `exec` whose instruction has no meaning yet; safe. No arm raises it. -/
  | notModelled (mnemonic : String)
  deriving DecidableEq, Repr

/-- The two causes of the block's one error kind, CalibrationError (R270). -/
inductive Cause where
  /-- Cause 1: stage T6 found `X1 + MD = 0` (R271). -/
  | temperature
  /-- Cause 2: stage P12 found `B4 = 0` (R272). -/
  | pressure
  deriving DecidableEq, Repr

/-- Every coefficient 0 (R300). -/
def Coefficients.zero : Coefficients :=
  { ac1 := 0#16, ac2 := 0#16, ac3 := 0#16, ac4 := 0#16, ac5 := 0#16, ac6 := 0#16,
    b1 := 0#16, b2 := 0#16, mb := 0#16, mc := 0#16, md := 0#16 }

/-- STATUS = 0x00 (R300). -/
def Status.zero : Status :=
  { tv := false, pv := false, terr := false, perr := false,
    b7hi := false, ovf := false, unf := false, ill := false }

/-- The machine right after reset: every register and flag 0 (R300), the host has offered nothing and
nothing has been answered. -/
def State.reset : State :=
  { cal := Coefficients.zero, ut := 0#16, up := 0#32, b5 := 0#32, t := 0#32, p := 0#32,
    status := Status.zero, port := [], responses := [] }

end Sys2Proof.Machine
end

