-- ==== Sys2Proof/Machine/Operands.lean ====
section
/-! DEFINITION. Operand assembly and typed values (spec/00_scope.md section 5.1, spec/30_encoding.md R95,
spec/40_arithmetic.md R120), the extension of a register on read (spec/20_memory.md R66) and the
truncation of DATA on write (R67), and the register table's type and access columns
(spec/10_state.md R20). -/

namespace Sys2Proof.Machine

/-! ## Typed values: integers in ℤ -/

/-- `sext_16`: the pattern read as a two's-complement integer. -/
def sext16 (v : Half) : Int := v.toInt

/-- `zext_16`: the pattern read as an unsigned integer. -/
def zext16 (v : Half) : Int := v.toNat

/-- `sext_32`: the pattern read as a two's-complement integer. -/
def sext32 (v : Word) : Int := v.toInt

/-- The pattern of an integer modulo 2^32: how a stage value is stored in a 32-bit register. -/
def pattern32 (v : Int) : Word := BitVec.ofInt 32 v

/-! ## Between the 32-bit port and a 16-bit register -/

/-- R67, R95: DATA[15:0]; DATA[31:16] is dropped without any flag. -/
def low16 (d : Word) : Half := d.extractLsb' 0 16

/-- R66: a signed 16-bit register is returned sign-extended. -/
def readS16 (v : Half) : Word := v.signExtend 32

/-- R66: an unsigned 16-bit register is returned zero-extended. -/
def readU16 (v : Half) : Word := v.setWidth 32

/-- R27: `{24'b0, ILL, UNF, OVF, B7HI, PERR, TERR, PV, TV}`. -/
def Status.toWord (f : Status) : Word :=
  0#24 ++ BitVec.ofBool f.ill ++ BitVec.ofBool f.unf ++ BitVec.ofBool f.ovf ++ BitVec.ofBool f.b7hi
    ++ BitVec.ofBool f.perr ++ BitVec.ofBool f.terr ++ BitVec.ofBool f.pv ++ BitVec.ofBool f.tv

/-! ## The type and access columns of R20 -/

/-- The type column. -/
def regType : Reg → RegType
  | .ac1 => .s16
  | .ac2 => .s16
  | .ac3 => .s16
  | .ac4 => .u16
  | .ac5 => .u16
  | .ac6 => .u16
  | .b1 => .s16
  | .b2 => .s16
  | .mb => .s16
  | .mc => .s16
  | .md => .s16
  | .ut => .s16
  | .up => .s32
  | .b5 => .s32
  | .t => .s32
  | .p => .s32
  | .cmd => .port
  | .status => .flags8

/-- The host-access column. -/
def regAccess : Reg → Access
  | .ac1 => .readWrite
  | .ac2 => .readWrite
  | .ac3 => .readWrite
  | .ac4 => .readWrite
  | .ac5 => .readWrite
  | .ac6 => .readWrite
  | .b1 => .readWrite
  | .b2 => .readWrite
  | .mb => .readWrite
  | .mc => .readWrite
  | .md => .readWrite
  | .ut => .readWrite
  | .up => .readWrite
  | .b5 => .readWrite
  | .t => .readOnly
  | .p => .readOnly
  | .cmd => .writeStartsCommand
  | .status => .readOnly

/-- `MemRead` of a register that exists (R66): its value as a 32-bit pattern. CMD reads as 0 (R26). -/
def readReg (r : Reg) (s : State) : Word :=
  match r with
  | .ac1 => readS16 s.cal.ac1
  | .ac2 => readS16 s.cal.ac2
  | .ac3 => readS16 s.cal.ac3
  | .ac4 => readU16 s.cal.ac4
  | .ac5 => readU16 s.cal.ac5
  | .ac6 => readU16 s.cal.ac6
  | .b1 => readS16 s.cal.b1
  | .b2 => readS16 s.cal.b2
  | .mb => readS16 s.cal.mb
  | .mc => readS16 s.cal.mc
  | .md => readS16 s.cal.md
  | .ut => readS16 s.ut
  | .up => s.up
  | .b5 => s.b5
  | .t => s.t
  | .p => s.p
  | .cmd => 0#32
  | .status => s.status.toWord

end Sys2Proof.Machine
end

