-- ==== Sys2Proof/Machine/Arith.lean ====
section
/-! DEFINITION. The datapath's exact operations on typed values (spec/40_arithmetic.md): wrapping into
32 bits, the two right shifts and the two dividers. Every left shift of the spec is a multiplication by a
power of two in ℤ (R129), and the additions and multiplications are those of ℤ (R120, R123, R124). -/

namespace Sys2Proof.Machine

/-- `wrap_s32(r)`: the s32 congruent to r modulo 2^32 (spec/00_scope.md section 5.1). -/
def wrapS32 (r : Int) : Int := Int.bmod r (2 ^ 32)

/-- `wrap_u32(r)`: r mod 2^32, the u32 congruent to r (spec/00_scope.md section 5.1). -/
def wrapU32 (r : Int) : Int := Int.emod r (2 ^ 32)

/-- R125: arithmetic right shift, `floor(v / 2^n)`. -/
def asr (v : Int) (n : Nat) : Int := Int.fdiv v (2 ^ n)

/-- R126: logical right shift of a u32, `floor(v / 2^n)`. -/
def lsr (v : Int) (n : Nat) : Int := Int.fdiv v (2 ^ n)

/-- R127: signed division rounding toward minus infinity, `floor(a / b)`; used with b ≠ 0 only. -/
def fdiv (a b : Int) : Int := Int.fdiv a b

/-- R128: unsigned division, `floor(a / b)`; used with b ≠ 0 only. -/
def udiv (a b : Int) : Int := Int.fdiv a b

end Sys2Proof.Machine
end

