-- ==== Sys2Proof/Machine/Flags.lean ====
section
/-! DEFINITION. The flag computations: the range detection of a stage result (spec/40_arithmetic.md R121,
R122), how the stages of a command record it, and what CLR and a reserved request do to STATUS
(spec/10_state.md R28). No stage reads a flag (R31). -/

namespace Sys2Proof.Machine

/-- One stage result: the value stored, and whether the exact result lay above or below the range of its
type (R121, R122). -/
structure StageResult where
  val : Int
  above : Bool
  below : Bool
  deriving DecidableEq, Repr

/-- R121: the signed stage result `s32(r)`. -/
def s32 (r : Int) : StageResult :=
  { val := wrapS32 r, above := decide (2 ^ 31 - 1 < r), below := decide (r < -2 ^ 31) }

/-- R122: the unsigned stage result `u32(r)`. -/
def u32 (r : Int) : StageResult :=
  { val := wrapU32 r, above := decide (2 ^ 32 - 1 < r), below := decide (r < 0) }

/-- R121, R122: a stage result above its range sets OVF, one below sets UNF; neither is ever cleared
here (both are sticky, R28). -/
def Status.recordRange (f : Status) (stages : List StageResult) : Status :=
  { f with ovf := f.ovf || stages.any StageResult.above
           unf := f.unf || stages.any StageResult.below }

/-- R166: CLR clears TERR, PERR, OVF, UNF and ILL. -/
def Status.clear (f : Status) : Status :=
  { f with terr := false, perr := false, ovf := false, unf := false, ill := false }

/-- R167: a reserved request sets ILL. -/
def Status.setIll (f : Status) : Status :=
  { f with ill := true }

/-- R28: a host write to B5 clears TV. -/
def Status.clearTv (f : Status) : Status :=
  { f with tv := false }

/-- R199: stage T9 sets TV and clears TERR. -/
def Status.tempDone (f : Status) : Status :=
  { f with tv := true, terr := false }

/-- R236: stage P16 sets PV, clears PERR and writes B7HI. -/
def Status.presDone (f : Status) (hi : Bool) : Status :=
  { f with pv := true, perr := false, b7hi := hi }

/-- R274: the flags of a CalibrationError: the cause's error flag is set and its valid flag cleared. -/
def Status.calibrationError (f : Status) : Cause → Status
  | .temperature => { f with terr := true, tv := false }
  | .pressure => { f with perr := true, pv := false }

end Sys2Proof.Machine
end

