-- ==== Sys2Proof/Machine/Ops.lean ====
section
/-! DEFINITION. The named operations over the registers and the port (spec/20_memory.md R60 to R67), the
entry of a CalibrationError and its acknowledgement (spec/60_exceptions.md R274, R275), the reserved
request (spec/41_commands.md R167) and reset (spec/70_reset_and_hazards.md R300, R301). -/

namespace Sys2Proof.Machine

/-! ## Register writes (R67) -/

/-- `x[AC1] <- v`. -/
def State.setAc1 (s : State) (v : Half) : State :=
  { s with cal := { s.cal with ac1 := v } }

/-- `x[AC2] <- v`. -/
def State.setAc2 (s : State) (v : Half) : State :=
  { s with cal := { s.cal with ac2 := v } }

/-- `x[AC3] <- v`. -/
def State.setAc3 (s : State) (v : Half) : State :=
  { s with cal := { s.cal with ac3 := v } }

/-- `x[AC4] <- v`. -/
def State.setAc4 (s : State) (v : Half) : State :=
  { s with cal := { s.cal with ac4 := v } }

/-- `x[AC5] <- v`. -/
def State.setAc5 (s : State) (v : Half) : State :=
  { s with cal := { s.cal with ac5 := v } }

/-- `x[AC6] <- v`. -/
def State.setAc6 (s : State) (v : Half) : State :=
  { s with cal := { s.cal with ac6 := v } }

/-- `x[B1] <- v`. -/
def State.setB1 (s : State) (v : Half) : State :=
  { s with cal := { s.cal with b1 := v } }

/-- `x[B2] <- v`. -/
def State.setB2 (s : State) (v : Half) : State :=
  { s with cal := { s.cal with b2 := v } }

/-- `x[MB] <- v`. -/
def State.setMb (s : State) (v : Half) : State :=
  { s with cal := { s.cal with mb := v } }

/-- `x[MC] <- v`. -/
def State.setMc (s : State) (v : Half) : State :=
  { s with cal := { s.cal with mc := v } }

/-- `x[MD] <- v`. -/
def State.setMd (s : State) (v : Half) : State :=
  { s with cal := { s.cal with md := v } }

/-- `x[UT] <- v`. -/
def State.setUt (s : State) (v : Half) : State :=
  { s with ut := v }

/-- `x[UP] <- v`. -/
def State.setUp (s : State) (v : Word) : State :=
  { s with up := v }

/-- `x[B5] <- v`, with no effect on STATUS (stage T9 writes it so; a host write clears TV besides). -/
def State.setB5 (s : State) (v : Word) : State :=
  { s with b5 := v }

/-- `x[T] <- v` (stage T9 only, R25). -/
def State.setT (s : State) (v : Word) : State :=
  { s with t := v }

/-- `x[P] <- v` (stage P16 only, R25). -/
def State.setP (s : State) (v : Word) : State :=
  { s with p := v }

/-- STATUS replaced by `f`. -/
def State.withStatus (s : State) (f : Status) : State :=
  { s with status := f }

/-! ## The port (R60, R61) -/

/-- The host's remaining events replaced by `es`. -/
def State.withPort (s : State) (es : List PortEvent) : State :=
  { s with port := es }

/-- `respond(d)`: deliver the pattern `d` as the response of the current request (R61). -/
def State.respond (s : State) (d : Word) : State :=
  { s with responses := s.responses ++ [d] }

/-! ## Stages (R121, R122), CalibrationError (R274) and its acknowledgement (R275) -/

/-- Record the range flags of the stages that have run. -/
def State.recordRange (s : State) (stages : List StageResult) : State :=
  s.withStatus (s.status.recordRange stages)

/-- `raise CalibrationError(c)` (R274): flags only. No result register is written, nothing is saved, no
mode changes, and the request completes normally. -/
def State.raiseCalibrationError (s : State) (c : Cause) : State :=
  s.withStatus (s.status.calibrationError c)

/-- The acknowledgement of an error (R275, R166), the nearest thing to a return from an exception (R170):
it restores nothing, since an error saves nothing. -/
def State.acknowledge (s : State) : State :=
  s.withStatus s.status.clear

/-- The cause code of R270. -/
def Cause.code : Cause → Nat
  | .temperature => 1
  | .pressure => 2

/-! ## Reserved requests (R167) and reset (R300, R301) -/

/-- R167: ILL is set, and a word with W = 0 is answered with 0x0000_0000; nothing else changes. -/
def State.reservedRequest (s : State) (r : Reserved) : State :=
  match r.isRead with
  | true => (s.withStatus s.status.setIll).respond 0#32
  | false => s.withStatus s.status.setIll

/-- R300, R301: `rst` puts every register at its reset value. What the host has still to offer and the
responses it has already received are the host's and stay. -/
def State.applyReset (s : State) : State :=
  { State.reset with port := s.port, responses := s.responses }

end Sys2Proof.Machine
end

