-- ==== Sys2Proof/Machine/Commands.lean ====
section
/-! DEFINITION. The commands NOP and CLR (spec/41_commands.md R165, R166). -/

namespace Sys2Proof.Machine

/-- `NOP`: state before equals state after (R165). -/
def execNop (s : State) : Host.Outcome State Fault Refusal :=
  .next s

/-- `CLR`: clear TERR, PERR, OVF, UNF and ILL (R166). -/
def execClr (s : State) : Host.Outcome State Fault Refusal :=
  .next s.acknowledge

end Sys2Proof.Machine
end

