-- ==== Sys2Proof/Machine/Pressure.lean ====
section
/-! DEFINITION. PRES, band1's computePressure(rawPressure, B5, coefficients): the stages P1 to P16 of
spec/43_pressure.md R220 to R236, each stage value under its own name, as a function of the coefficients,
B5 and the raw pressure alone (R238). A value that `s32` or `u32` defines is a `StageResult`; a shifted or
divided value, which can set no flag, is an integer. The constants are those the spec gives; it marks them
as general knowledge checked against band1's one vector (spec/91_not_in_source.md N1; log entry 3). -/

namespace Sys2Proof.Machine

/-- Stage P1, B6: `pB6 = s32(x[B5] − 4000)` (R221). -/
def Pres.pB6 (b5 : Word) : StageResult :=
  s32 (sext32 b5 - 4000)

/-- Stage P2: `pQ = s32(pB6 × pB6)` (R222). -/
def Pres.pQ (b5 : Word) : StageResult :=
  s32 ((Pres.pB6 b5).val * (Pres.pB6 b5).val)

/-- Stage P2: `pK = asr(pQ, 12)` (R222). -/
def Pres.pK (b5 : Word) : Int :=
  asr (Pres.pQ b5).val 12

/-- Stage P3: `pM1 = s32(x[B2] × pK)` (R223). -/
def Pres.pM1 (c : Coefficients) (b5 : Word) : StageResult :=
  s32 (sext16 c.b2 * Pres.pK b5)

/-- Stage P3, the first X1: `pX1a = asr(pM1, 11)` (R223). -/
def Pres.pX1a (c : Coefficients) (b5 : Word) : Int :=
  asr (Pres.pM1 c b5).val 11

/-- Stage P4: `pM2 = s32(x[AC2] × pB6)` (R224). -/
def Pres.pM2 (c : Coefficients) (b5 : Word) : StageResult :=
  s32 (sext16 c.ac2 * (Pres.pB6 b5).val)

/-- Stage P4, the first X2: `pX2a = asr(pM2, 11)` (R224). -/
def Pres.pX2a (c : Coefficients) (b5 : Word) : Int :=
  asr (Pres.pM2 c b5).val 11

/-- Stage P5, the first X3: `pX3a = s32(pX1a + pX2a)` (R225). -/
def Pres.pX3a (c : Coefficients) (b5 : Word) : StageResult :=
  s32 (Pres.pX1a c b5 + Pres.pX2a c b5)

/-- Stage P6: `pE = s32(x[AC1] × 4)` (R226). -/
def Pres.pE (c : Coefficients) : StageResult :=
  s32 (sext16 c.ac1 * 4)

/-- Stage P6: `pG = s32(pE + pX3a)` (R226). -/
def Pres.pG (c : Coefficients) (b5 : Word) : StageResult :=
  s32 ((Pres.pE c).val + (Pres.pX3a c b5).val)

/-- Stage P6: `pH = s32(pG × 2^OSS)` (R226, R129). -/
def Pres.pH (c : Coefficients) (b5 : Word) : StageResult :=
  s32 ((Pres.pG c b5).val * 2 ^ Config.oss)

/-- Stage P6: `pI = s32(pH + 2)` (R226). -/
def Pres.pI (c : Coefficients) (b5 : Word) : StageResult :=
  s32 ((Pres.pH c b5).val + 2)

/-- Stage P6, B3: `pB3 = asr(pI, 2)` (R226). -/
def Pres.pB3 (c : Coefficients) (b5 : Word) : Int :=
  asr (Pres.pI c b5).val 2

/-- Stage P7: `pM3 = s32(x[AC3] × pB6)` (R227). -/
def Pres.pM3 (c : Coefficients) (b5 : Word) : StageResult :=
  s32 (sext16 c.ac3 * (Pres.pB6 b5).val)

/-- Stage P7, the second X1: `pX1b = asr(pM3, 13)` (R227). -/
def Pres.pX1b (c : Coefficients) (b5 : Word) : Int :=
  asr (Pres.pM3 c b5).val 13

/-- Stage P8: `pM4 = s32(x[B1] × pK)` (R228). -/
def Pres.pM4 (c : Coefficients) (b5 : Word) : StageResult :=
  s32 (sext16 c.b1 * Pres.pK b5)

/-- Stage P8, the second X2: `pX2b = asr(pM4, 16)` (R228). -/
def Pres.pX2b (c : Coefficients) (b5 : Word) : Int :=
  asr (Pres.pM4 c b5).val 16

/-- Stage P9: `pL = s32(pX1b + pX2b)` (R229). -/
def Pres.pL (c : Coefficients) (b5 : Word) : StageResult :=
  s32 (Pres.pX1b c b5 + Pres.pX2b c b5)

/-- Stage P9: `pN = s32(pL + 2)` (R229). -/
def Pres.pN (c : Coefficients) (b5 : Word) : StageResult :=
  s32 ((Pres.pL c b5).val + 2)

/-- Stage P9, the second X3: `pX3b = asr(pN, 2)` (R229). -/
def Pres.pX3b (c : Coefficients) (b5 : Word) : Int :=
  asr (Pres.pN c b5).val 2

/-- Stage P10: `pV = s32(pX3b + 32768)` (R230). -/
def Pres.pV (c : Coefficients) (b5 : Word) : StageResult :=
  s32 (Pres.pX3b c b5 + 32768)

/-- Stage P10, the crossing into the unsigned path: `pU = u32(pV)` (R230, R130). -/
def Pres.pU (c : Coefficients) (b5 : Word) : StageResult :=
  u32 (Pres.pV c b5).val

/-- Stage P10: `pW = u32(x[AC4] × pU)` (R230). -/
def Pres.pW (c : Coefficients) (b5 : Word) : StageResult :=
  u32 (zext16 c.ac4 * (Pres.pU c b5).val)

/-- Stage P10, B4: `pB4 = lsr(pW, 15)` (R230). -/
def Pres.pB4 (c : Coefficients) (b5 : Word) : Int :=
  lsr (Pres.pW c b5).val 15

/-- Stage P11, the crossing of the signed difference: `pD = u32(x[UP] − pB3)` (R231, R130). -/
def Pres.pD (c : Coefficients) (b5 up : Word) : StageResult :=
  u32 (sext32 up - Pres.pB3 c b5)

/-- Stage P11, B7: `pB7 = u32(pD × (50000 >> OSS))` (R231). -/
def Pres.pB7 (c : Coefficients) (b5 up : Word) : StageResult :=
  u32 ((Pres.pD c b5 up).val * lsr 50000 Config.oss)

/-- Stage P12, the carry-boundary branch: whether `pB7 ≥ 0x8000_0000` (R232, R131). -/
def Pres.hi (c : Coefficients) (b5 up : Word) : Bool :=
  decide (0x80000000 ≤ (Pres.pB7 c b5 up).val)

/-- Stage P12, low branch: `u32(pB7 × 2)` (R232). -/
def Pres.pDoubled (c : Coefficients) (b5 up : Word) : StageResult :=
  u32 ((Pres.pB7 c b5 up).val * 2)

/-- Stage P12, low branch: `udiv(u32(pB7 × 2), pB4)`, band1's `(B7 << 1) / B4` (R232). -/
def Pres.quotientLow (c : Coefficients) (b5 up : Word) : Int :=
  udiv (Pres.pDoubled c b5 up).val (Pres.pB4 c b5)

/-- Stage P12, high branch: `u32(udiv(pB7, pB4) × 2)`, band1's `(B7 / B4) << 1` (R232). -/
def Pres.quotientHigh (c : Coefficients) (b5 up : Word) : StageResult :=
  u32 (udiv (Pres.pB7 c b5 up).val (Pres.pB4 c b5) * 2)

/-- Stage P12: the unsigned quotient `pQ0` of the branch taken (R232). -/
def Pres.pQ0 (c : Coefficients) (b5 up : Word) : Int :=
  match Pres.hi c b5 up with
  | false => Pres.quotientLow c b5 up
  | true => (Pres.quotientHigh c b5 up).val

/-- Stage P12: the stage result of the branch taken, the only one of the two that runs (R232). -/
def Pres.branchStage (c : Coefficients) (b5 up : Word) : StageResult :=
  match Pres.hi c b5 up with
  | false => Pres.pDoubled c b5 up
  | true => Pres.quotientHigh c b5 up

/-- Stage P12, the quotient taken onto the signed path: `p0 = s32(pQ0)` (R232, R130). -/
def Pres.p0 (c : Coefficients) (b5 up : Word) : StageResult :=
  s32 (Pres.pQ0 c b5 up)

/-- Stage P13: `pR = asr(p0, 8)` (R233). -/
def Pres.pR (p0 : Int) : Int :=
  asr p0 8

/-- Stage P13: `pS = s32(pR × pR)` (R233). -/
def Pres.pS (p0 : Int) : StageResult :=
  s32 (Pres.pR p0 * Pres.pR p0)

/-- Stage P13: `pT = s32(pS × 3038)` (R233). -/
def Pres.pT (p0 : Int) : StageResult :=
  s32 ((Pres.pS p0).val * 3038)

/-- Stage P13, the third X1: `pX1c = asr(pT, 16)` (R233). -/
def Pres.pX1c (p0 : Int) : Int :=
  asr (Pres.pT p0).val 16

/-- Stage P14: `pY = s32(−7357 × p0)` (R234). -/
def Pres.pY (p0 : Int) : StageResult :=
  s32 (-7357 * p0)

/-- Stage P14, the third X2: `pX2c = asr(pY, 16)` (R234). -/
def Pres.pX2c (p0 : Int) : Int :=
  asr (Pres.pY p0).val 16

/-- Stage P15: `pZ1 = s32(pX1c + pX2c)` (R235). -/
def Pres.pZ1 (p0 : Int) : StageResult :=
  s32 (Pres.pX1c p0 + Pres.pX2c p0)

/-- Stage P15: `pZ2 = s32(pZ1 + 3791)` (R235). -/
def Pres.pZ2 (p0 : Int) : StageResult :=
  s32 ((Pres.pZ1 p0).val + 3791)

/-- Stage P15: `pZ3 = asr(pZ2, 4)` (R235). -/
def Pres.pZ3 (p0 : Int) : Int :=
  asr (Pres.pZ2 p0).val 4

/-- Stage P15, the final pressure from the quotient `p0`: `pP = s32(p0 + pZ3)` (R235). -/
def Pres.pP (p0 : Int) : StageResult :=
  s32 (p0 + Pres.pZ3 p0)

/-- The stage results of P1 to P11, which run before the zero check (R276, R237). -/
def Pres.beforeCheck (c : Coefficients) (b5 up : Word) : List StageResult :=
  [Pres.pB6 b5, Pres.pQ b5, Pres.pM1 c b5, Pres.pM2 c b5, Pres.pX3a c b5,
   Pres.pE c, Pres.pG c b5, Pres.pH c b5, Pres.pI c b5,
   Pres.pM3 c b5, Pres.pM4 c b5, Pres.pL c b5, Pres.pN c b5,
   Pres.pV c b5, Pres.pU c b5, Pres.pW c b5, Pres.pD c b5 up, Pres.pB7 c b5 up]

/-- The stage results of P13 to P15 on the quotient `p0`. -/
def Pres.correctionStages (p0 : Int) : List StageResult :=
  [Pres.pS p0, Pres.pT p0, Pres.pY p0, Pres.pZ1 p0, Pres.pZ2 p0, Pres.pP p0]

/-- The stage results of P12 to P15, which run only when the check passes (R276, R237). -/
def Pres.afterCheck (c : Coefficients) (b5 up : Word) : List StageResult :=
  [Pres.branchStage c b5 up, Pres.p0 c b5 up]
    ++ Pres.correctionStages (Pres.p0 c b5 up).val

/-- Stage P16: P, PV, PERR and B7HI written together (R236). -/
def State.commitPres (s : State) (p : Word) (hi : Bool) : State :=
  (s.setP p).withStatus (s.status.presDone hi)

/-- `PRES` (R220): stages P1 to P11; the zero check of P12; then CalibrationError cause 2, or the rest of
the stages and the commit. -/
def execPres (s : State) : Host.Outcome State Fault Refusal :=
  if Pres.pB4 s.cal s.b5 = 0 then
    .next ((s.recordRange (Pres.beforeCheck s.cal s.b5 s.up)).raiseCalibrationError .pressure)
  else
    .next (((s.recordRange (Pres.beforeCheck s.cal s.b5 s.up)).recordRange
        (Pres.afterCheck s.cal s.b5 s.up)).commitPres
      (pattern32 (Pres.pP (Pres.p0 s.cal s.b5 s.up).val).val) (Pres.hi s.cal s.b5 s.up))

end Sys2Proof.Machine
end

