-- ==== Sys2Proof/Machine/ReadRequests.lean ====
section
/-! DEFINITION. RD: one meaning per register (spec/41_commands.md R161, spec/20_memory.md R66). A read
responds with the register's value and changes no register and no flag. -/

namespace Sys2Proof.Machine

/-- `RD AC1` (R161). -/
def execRdAc1 (s : State) : Host.Outcome State Fault Refusal :=
  .next (s.respond (readReg .ac1 s))

/-- `RD AC2` (R161). -/
def execRdAc2 (s : State) : Host.Outcome State Fault Refusal :=
  .next (s.respond (readReg .ac2 s))

/-- `RD AC3` (R161). -/
def execRdAc3 (s : State) : Host.Outcome State Fault Refusal :=
  .next (s.respond (readReg .ac3 s))

/-- `RD AC4` (R161). -/
def execRdAc4 (s : State) : Host.Outcome State Fault Refusal :=
  .next (s.respond (readReg .ac4 s))

/-- `RD AC5` (R161). -/
def execRdAc5 (s : State) : Host.Outcome State Fault Refusal :=
  .next (s.respond (readReg .ac5 s))

/-- `RD AC6` (R161). -/
def execRdAc6 (s : State) : Host.Outcome State Fault Refusal :=
  .next (s.respond (readReg .ac6 s))

/-- `RD B1` (R161). -/
def execRdB1 (s : State) : Host.Outcome State Fault Refusal :=
  .next (s.respond (readReg .b1 s))

/-- `RD B2` (R161). -/
def execRdB2 (s : State) : Host.Outcome State Fault Refusal :=
  .next (s.respond (readReg .b2 s))

/-- `RD MB` (R161). -/
def execRdMb (s : State) : Host.Outcome State Fault Refusal :=
  .next (s.respond (readReg .mb s))

/-- `RD MC` (R161). -/
def execRdMc (s : State) : Host.Outcome State Fault Refusal :=
  .next (s.respond (readReg .mc s))

/-- `RD MD` (R161). -/
def execRdMd (s : State) : Host.Outcome State Fault Refusal :=
  .next (s.respond (readReg .md s))

/-- `RD UT` (R161). -/
def execRdUt (s : State) : Host.Outcome State Fault Refusal :=
  .next (s.respond (readReg .ut s))

/-- `RD UP` (R161). -/
def execRdUp (s : State) : Host.Outcome State Fault Refusal :=
  .next (s.respond (readReg .up s))

/-- `RD B5` (R161). -/
def execRdB5 (s : State) : Host.Outcome State Fault Refusal :=
  .next (s.respond (readReg .b5 s))

/-- `RD T` (R161). -/
def execRdT (s : State) : Host.Outcome State Fault Refusal :=
  .next (s.respond (readReg .t s))

/-- `RD P` (R161). -/
def execRdP (s : State) : Host.Outcome State Fault Refusal :=
  .next (s.respond (readReg .p s))

/-- `RD CMD` (R161). -/
def execRdCmd (s : State) : Host.Outcome State Fault Refusal :=
  .next (s.respond (readReg .cmd s))

/-- `RD STATUS` (R161). -/
def execRdStatus (s : State) : Host.Outcome State Fault Refusal :=
  .next (s.respond (readReg .status s))

end Sys2Proof.Machine
end

