-- ==== Sys2Proof/Machine/Temperature.lean ====
section
/-! DEFINITION. TEMP, band1's computeTemperature(rawTemperature, coefficients): the stages T1 to T9 of
spec/42_temperature.md R190 to R199, each stage value under its own name, as a function of the
coefficients and the raw temperature alone (R201). A value that `s32` defines is a `StageResult`; a shifted
value, which can set no flag, is an integer. -/

namespace Sys2Proof.Machine

/-- Stage T1: `tD = s32(x[UT] − x[AC6])` (R191). -/
def Temp.tD (c : Coefficients) (ut : Half) : StageResult :=
  s32 (sext16 ut - zext16 c.ac6)

/-- Stage T2: `tM = s32(tD × x[AC5])` (R192). -/
def Temp.tM (c : Coefficients) (ut : Half) : StageResult :=
  s32 ((Temp.tD c ut).val * zext16 c.ac5)

/-- Stage T3, band1's X1: `tX1 = asr(tM, 15)` (R193). -/
def Temp.tX1 (c : Coefficients) (ut : Half) : Int :=
  asr (Temp.tM c ut).val 15

/-- Stage T4: `tN = s32(x[MC] × 2^11)` (R194). -/
def Temp.tN (c : Coefficients) : StageResult :=
  s32 (sext16 c.mc * 2 ^ 11)

/-- Stage T5, the divisor: `tS = s32(tX1 + x[MD])` (R195). -/
def Temp.tS (c : Coefficients) (ut : Half) : StageResult :=
  s32 (Temp.tX1 c ut + sext16 c.md)

/-- Stage T6, band1's X2: `tX2 = s32(fdiv(tN, tS))`, formed only when `tS ≠ 0` (R196). -/
def Temp.tX2 (c : Coefficients) (ut : Half) : StageResult :=
  s32 (fdiv (Temp.tN c).val (Temp.tS c ut).val)

/-- Stage T7, band1's B5: `tB5 = s32(tX1 + tX2)` (R197). -/
def Temp.tB5 (c : Coefficients) (ut : Half) : StageResult :=
  s32 (Temp.tX1 c ut + (Temp.tX2 c ut).val)

/-- Stage T8: `tA = s32(tB5 + 8)` (R198). -/
def Temp.tA (c : Coefficients) (ut : Half) : StageResult :=
  s32 ((Temp.tB5 c ut).val + 8)

/-- Stage T8: `tT = asr(tA, 4)` (R198). -/
def Temp.tT (c : Coefficients) (ut : Half) : Int :=
  asr (Temp.tA c ut).val 4

/-- The stage results of T1 to T5, which run before the zero check (R276). -/
def Temp.beforeCheck (c : Coefficients) (ut : Half) : List StageResult :=
  [Temp.tD c ut, Temp.tM c ut, Temp.tN c, Temp.tS c ut]

/-- The stage results of T6 to T8, which run only when the check passes (R276). -/
def Temp.afterCheck (c : Coefficients) (ut : Half) : List StageResult :=
  [Temp.tX2 c ut, Temp.tB5 c ut, Temp.tA c ut]

/-- Stage T9: B5, T, TV and TERR written together (R199). -/
def State.commitTemp (s : State) (b5 t : Word) : State :=
  ((s.setB5 b5).setT t).withStatus s.status.tempDone

/-- `TEMP` (R190): stages T1 to T5; the zero check of T6; then CalibrationError cause 1, or the rest of the
stages and the commit. -/
def execTemp (s : State) : Host.Outcome State Fault Refusal :=
  if (Temp.tS s.cal s.ut).val = 0 then
    .next ((s.recordRange (Temp.beforeCheck s.cal s.ut)).raiseCalibrationError .temperature)
  else
    .next (((s.recordRange (Temp.beforeCheck s.cal s.ut)).recordRange
        (Temp.afterCheck s.cal s.ut)).commitTemp
      (pattern32 (Temp.tB5 s.cal s.ut).val) (pattern32 (Temp.tT s.cal s.ut)))

end Sys2Proof.Machine
end

