-- ==== Sys2Proof/Machine/WriteRequests.lean ====
section
/-! DEFINITION. WR: one meaning per writable register (spec/41_commands.md R162, spec/20_memory.md R67). A
write produces no response and, but for WR B5 clearing TV, touches no flag. -/

namespace Sys2Proof.Machine

/-- `WR AC1, value`: `x[AC1] <- sext_16(value[15:0])` (R162, R67). -/
def execWrAc1 (value : Word) (s : State) : Host.Outcome State Fault Refusal :=
  .next (s.setAc1 (low16 value))

/-- `WR AC2, value`: `x[AC2] <- sext_16(value[15:0])` (R162, R67). -/
def execWrAc2 (value : Word) (s : State) : Host.Outcome State Fault Refusal :=
  .next (s.setAc2 (low16 value))

/-- `WR AC3, value`: `x[AC3] <- sext_16(value[15:0])` (R162, R67). -/
def execWrAc3 (value : Word) (s : State) : Host.Outcome State Fault Refusal :=
  .next (s.setAc3 (low16 value))

/-- `WR AC4, value`: `x[AC4] <- zext_16(value[15:0])` (R162, R67). -/
def execWrAc4 (value : Word) (s : State) : Host.Outcome State Fault Refusal :=
  .next (s.setAc4 (low16 value))

/-- `WR AC5, value`: `x[AC5] <- zext_16(value[15:0])` (R162, R67). -/
def execWrAc5 (value : Word) (s : State) : Host.Outcome State Fault Refusal :=
  .next (s.setAc5 (low16 value))

/-- `WR AC6, value`: `x[AC6] <- zext_16(value[15:0])` (R162, R67). -/
def execWrAc6 (value : Word) (s : State) : Host.Outcome State Fault Refusal :=
  .next (s.setAc6 (low16 value))

/-- `WR B1, value`: `x[B1] <- sext_16(value[15:0])` (R162, R67). -/
def execWrB1 (value : Word) (s : State) : Host.Outcome State Fault Refusal :=
  .next (s.setB1 (low16 value))

/-- `WR B2, value`: `x[B2] <- sext_16(value[15:0])` (R162, R67). -/
def execWrB2 (value : Word) (s : State) : Host.Outcome State Fault Refusal :=
  .next (s.setB2 (low16 value))

/-- `WR MB, value`: `x[MB] <- sext_16(value[15:0])` (R162, R67). -/
def execWrMb (value : Word) (s : State) : Host.Outcome State Fault Refusal :=
  .next (s.setMb (low16 value))

/-- `WR MC, value`: `x[MC] <- sext_16(value[15:0])` (R162, R67). -/
def execWrMc (value : Word) (s : State) : Host.Outcome State Fault Refusal :=
  .next (s.setMc (low16 value))

/-- `WR MD, value`: `x[MD] <- sext_16(value[15:0])` (R162, R67). -/
def execWrMd (value : Word) (s : State) : Host.Outcome State Fault Refusal :=
  .next (s.setMd (low16 value))

/-- `WR UT, value`: `x[UT] <- sext_16(value[15:0])` (R162, R67). -/
def execWrUt (value : Word) (s : State) : Host.Outcome State Fault Refusal :=
  .next (s.setUt (low16 value))

/-- `WR UP, value`: `x[UP] <- sext_32(value)` (R162, R67). -/
def execWrUp (value : Word) (s : State) : Host.Outcome State Fault Refusal :=
  .next (s.setUp value)

/-- `WR B5, value`: `x[B5] <- sext_32(value)` and `STATUS.TV <- 0` (R162, R67). -/
def execWrB5 (value : Word) (s : State) : Host.Outcome State Fault Refusal :=
  .next ((s.setB5 value).withStatus s.status.clearTv)

end Sys2Proof.Machine
end

