-- ==== Sys2Proof/Machine/Dispatch.lean ====
section
/-! DEFINITION. One arm per instruction, each one call of its meaning (spec/41_commands.md R160). -/

namespace Sys2Proof.Machine

def exec (i : Instr) (s : State) : Host.Outcome State Fault Refusal :=
  match i with
  | .rdAc1 => Sys2Proof.Machine.execRdAc1 s
  | .rdAc2 => Sys2Proof.Machine.execRdAc2 s
  | .rdAc3 => Sys2Proof.Machine.execRdAc3 s
  | .rdAc4 => Sys2Proof.Machine.execRdAc4 s
  | .rdAc5 => Sys2Proof.Machine.execRdAc5 s
  | .rdAc6 => Sys2Proof.Machine.execRdAc6 s
  | .rdB1 => Sys2Proof.Machine.execRdB1 s
  | .rdB2 => Sys2Proof.Machine.execRdB2 s
  | .rdMb => Sys2Proof.Machine.execRdMb s
  | .rdMc => Sys2Proof.Machine.execRdMc s
  | .rdMd => Sys2Proof.Machine.execRdMd s
  | .rdUt => Sys2Proof.Machine.execRdUt s
  | .rdUp => Sys2Proof.Machine.execRdUp s
  | .rdB5 => Sys2Proof.Machine.execRdB5 s
  | .rdT => Sys2Proof.Machine.execRdT s
  | .rdP => Sys2Proof.Machine.execRdP s
  | .rdCmd => Sys2Proof.Machine.execRdCmd s
  | .rdStatus => Sys2Proof.Machine.execRdStatus s
  | .wrAc1 value => Sys2Proof.Machine.execWrAc1 value s
  | .wrAc2 value => Sys2Proof.Machine.execWrAc2 value s
  | .wrAc3 value => Sys2Proof.Machine.execWrAc3 value s
  | .wrAc4 value => Sys2Proof.Machine.execWrAc4 value s
  | .wrAc5 value => Sys2Proof.Machine.execWrAc5 value s
  | .wrAc6 value => Sys2Proof.Machine.execWrAc6 value s
  | .wrB1 value => Sys2Proof.Machine.execWrB1 value s
  | .wrB2 value => Sys2Proof.Machine.execWrB2 value s
  | .wrMb value => Sys2Proof.Machine.execWrMb value s
  | .wrMc value => Sys2Proof.Machine.execWrMc value s
  | .wrMd value => Sys2Proof.Machine.execWrMd value s
  | .wrUt value => Sys2Proof.Machine.execWrUt value s
  | .wrUp value => Sys2Proof.Machine.execWrUp value s
  | .wrB5 value => Sys2Proof.Machine.execWrB5 value s
  | .nop => Sys2Proof.Machine.execNop s
  | .temp => Sys2Proof.Machine.execTemp s
  | .pres => Sys2Proof.Machine.execPres s
  | .clr => Sys2Proof.Machine.execClr s

end Sys2Proof.Machine
end

