-- ==== Sys2Proof/Machine/Port.lean ====
section
/-! DEFINITION. One request at the port (spec/41_commands.md R160): decode and perform it. Beside it the
host-visible primitives MemRead and MemWrite over the whole 7-bit index space (spec/20_memory.md R66, R67)
and the command dispatch on DATA[7:0] (R164), written from their own rules; and the number of clock cycles
a request takes (R62). -/

namespace Sys2Proof.Machine

/-- R160: an accepted request word is one instruction, or it is reserved. -/
def performRequest (w : Request) (s : State) : Host.Outcome State Fault Refusal :=
  match decode w with
  | .ok i => exec i s
  | .error r => .next (s.reservedRequest r)

/-- `MemRead(i, 4)` (R66): the value, and the state after it; only a reserved index changes the state. -/
def memRead (i : RegIndex) (s : State) : Word × State :=
  match Reg.ofIndex i with
  | some r => (readReg r s, s)
  | none => (0#32, s.withStatus s.status.setIll)

/-- `WR CMD, value` (R164): dispatch on the code. -/
def execCommand (c : Code) (s : State) : Host.Outcome State Fault Refusal :=
  match c.toNat with
  | 0 => execNop s
  | 1 => execTemp s
  | 2 => execPres s
  | 3 => execClr s
  | _ => .next (s.withStatus s.status.setIll)

/-- `MemWrite(i, 4, d)` (R67). -/
def memWrite (i : RegIndex) (d : Word) (s : State) : Host.Outcome State Fault Refusal :=
  match Reg.ofIndex i with
  | some .ac1 => .next (s.setAc1 (low16 d))
  | some .ac2 => .next (s.setAc2 (low16 d))
  | some .ac3 => .next (s.setAc3 (low16 d))
  | some .ac4 => .next (s.setAc4 (low16 d))
  | some .ac5 => .next (s.setAc5 (low16 d))
  | some .ac6 => .next (s.setAc6 (low16 d))
  | some .b1 => .next (s.setB1 (low16 d))
  | some .b2 => .next (s.setB2 (low16 d))
  | some .mb => .next (s.setMb (low16 d))
  | some .mc => .next (s.setMc (low16 d))
  | some .md => .next (s.setMd (low16 d))
  | some .ut => .next (s.setUt (low16 d))
  | some .up => .next (s.setUp d)
  | some .b5 => .next ((s.setB5 d).withStatus s.status.clearTv)
  | some .t => .next (s.withStatus s.status.setIll)
  | some .p => .next (s.withStatus s.status.setIll)
  | some .status => .next (s.withStatus s.status.setIll)
  | some .cmd => execCommand d.code s
  | none => .next (s.withStatus s.status.setIll)

/-- R70: requests performed in the order they are accepted, one at a time, each atomically. -/
def performAll : List Request → State → Host.Outcome State Fault Refusal
  | [], s => .next s
  | w :: ws, s =>
    match performRequest w s with
    | .next s' => performAll ws s'
    | .fault r => .fault r
    | .refused r => .refused r

/-- R285: with no request the block is idle and holds its registers. -/
def idle (s : State) : Host.Outcome State Fault Refusal :=
  .next s

/-- R62: LAT_TEMP for TEMP, LAT_PRES for PRES, LAT_REG for every other request. -/
def requestLatency (lat : Latencies) (w : Request) : Nat :=
  match decode w with
  | .ok .temp => lat.latTemp
  | .ok .pres => lat.latPres
  | _ => lat.latReg

/-- The state with the request word offered before everything else the host still does. -/
def State.offer (s : State) (w : Request) : State :=
  s.withPort (.request w :: s.port)

end Sys2Proof.Machine
end

