-- ==== Sys2Proof/Machine/Step.lean ====
section
/-! DEFINITION. One step of the machine: the next event at the port (spec/20_memory.md R60, R70: one
request, performed completely and in the order accepted; spec/70_reset_and_hazards.md R301 for reset). -/

namespace Sys2Proof.Machine

/-- One step: the first event the host still has, or idling when there is none. -/
def step (s : State) : Host.Outcome State Fault Refusal :=
  match s.port with
  | [] => idle s
  | .request w :: rest => performRequest w (s.withPort rest)
  | .reset _ :: rest => .next (s.withPort rest).applyReset

/-- The host's entry for one instruction: the word is offered at the port as the next request. -/
def State.withFetchWord (s : State) (nbits w : Nat) : State :=
  s.offer (BitVec.ofNat 40 (w % 2 ^ nbits))

end Sys2Proof.Machine
end

