-- ==== Sys2Proof/Machine/Assembler.lean ====
section
/-! DEFINITION. The assembler of the spec's listings (spec/30_encoding.md R100, R101): one line is one
request, registers are numbers 0 to 127, values are integers, and five pseudo-instructions have fixed
expansions. The text of a line is read in AsmText.lean. -/

namespace Sys2Proof.Machine

/-- One request line (R100). -/
inductive AsmLine where
  /-- `RD <reg>`. -/
  | rd (reg : Nat)
  /-- `WR <reg>, <value>`; `WR CMD, <code>` is the command with that code. -/
  | wr (reg : Nat) (value : Int)
  | nop
  | temp
  | pres
  | clr
  deriving DecidableEq, Repr

/-- The eleven operands of LDCAL, in the order of R101. -/
structure CalValues where
  a1 : Int
  a2 : Int
  a3 : Int
  a4 : Int
  a5 : Int
  a6 : Int
  b1 : Int
  b2 : Int
  mb : Int
  mc : Int
  md : Int
  deriving DecidableEq, Repr

/-- A line of a listing: a request, or a pseudo-instruction (R101). -/
inductive AsmItem where
  | line (l : AsmLine)
  | ldcal (v : CalValues)
  | convt (ut : Int)
  | convp (up : Int)
  | conv (ut up : Int)
  | rdall
  deriving DecidableEq, Repr

/-- R100: a value lies in [−2^31, 2^32 − 1]. -/
def asmValueOk (v : Int) : Bool := decide (-2 ^ 31 ≤ v) && decide (v ≤ 2 ^ 32 - 1)

/-- R100: a register is a number 0 to 127, and a value lies in its range. -/
def AsmLine.wf : AsmLine → Bool
  | .rd reg => decide (reg ≤ 127)
  | .wr reg value => decide (reg ≤ 127) && asmValueOk value
  | .nop => true
  | .temp => true
  | .pres => true
  | .clr => true

/-- R100: the request word of a line; a value is encoded as `wrap_u32(value)`. -/
def AsmLine.encode : AsmLine → Request
  | .rd reg => Request.mk false (BitVec.ofNat 7 reg) 0#32
  | .wr reg value => Request.mk true (BitVec.ofNat 7 reg) (pattern32 value)
  | .nop => Sys2Proof.encode .nop
  | .temp => Sys2Proof.encode .temp
  | .pres => Sys2Proof.encode .pres
  | .clr => Sys2Proof.encode .clr

/-- The line that writes a named register. -/
def asmWr (r : Reg) (v : Int) : AsmLine := .wr (Reg.index r).toNat v

/-- The line that reads a named register. -/
def asmRd (r : Reg) : AsmLine := .rd (Reg.index r).toNat

/-- R101: the fixed expansion of a line. -/
def AsmItem.expand : AsmItem → List AsmLine
  | .line l => [l]
  | .ldcal v =>
    [asmWr .ac1 v.a1, asmWr .ac2 v.a2, asmWr .ac3 v.a3, asmWr .ac4 v.a4, asmWr .ac5 v.a5,
     asmWr .ac6 v.a6, asmWr .b1 v.b1, asmWr .b2 v.b2, asmWr .mb v.mb, asmWr .mc v.mc, asmWr .md v.md]
  | .convt ut => [asmWr .ut ut, .temp]
  | .convp up => [asmWr .up up, .pres]
  | .conv ut up => [asmWr .ut ut, .temp, asmWr .up up, .pres]
  | .rdall => [asmRd .status, asmRd .t, asmRd .b5, asmRd .p]

/-- A listing item is well-formed when every line of its expansion is. -/
def AsmItem.wf (a : AsmItem) : Bool := a.expand.all AsmLine.wf

/-- The request words of a listing, or `none` where a line is ill-formed. -/
def assemble (items : List AsmItem) : Option (List Request) :=
  if items.all AsmItem.wf then some ((items.flatMap AsmItem.expand).map AsmLine.encode) else none

end Sys2Proof.Machine
end

