-- ==== Sys2Proof/Machine/Clocked.lean ====
section
/-! DEFINITION. The signal-level form of the port (spec/20_memory.md R62, spec/70_reset_and_hazards.md
R301): one clock cycle of the block with its ready/valid handshake, reset and response. The spec calls
this form descriptive and the latencies OPEN; the latencies are arguments here (spec/00_scope.md R5) and
the transaction behaviour is `performRequest`. The choice of the cycle in which a request completes is
log entry 6. -/

namespace Sys2Proof.Machine

/-- The input signals of one clock cycle, as sampled on its rising edge (R62). -/
structure PortIn where
  rst : Bool
  reqValid : Bool
  req : Request
  deriving DecidableEq, Repr

/-- The output signals of one clock cycle (R62). `rsp_valid` is high exactly when `rsp` is a word; R62
gives `rsp` no value in the other cycles. -/
structure PortOut where
  reqReady : Bool
  rsp : Option Word
  deriving DecidableEq, Repr

/-- A request that has been accepted and is not complete, with the number of cycles up to and including
the one it completes in. -/
structure InFlight where
  word : Request
  left : Nat
  deriving DecidableEq, Repr

/-- The clocked block: its registers, and the request in flight, at most one (R60). -/
structure Clocked where
  block : State
  inFlight : Option InFlight
  deriving DecidableEq, Repr

/-- The response of a completing request: an RD (W = 0) has one, a WR has none (R61). -/
def completionResponse (w : Request) (after : State) : Option Word :=
  match Request.isWrite w with
  | true => none
  | false => after.responses.getLast?

/-- One clock cycle. With `rst` high nothing is accepted or answered, a request in flight is abandoned,
and the reset state is held (R301). Otherwise an idle block is ready and accepts an offered word; a block
with a request in flight is not ready, and in the last of its cycles performs it. -/
def cycle (lat : Latencies) (i : PortIn) (c : Clocked) :
    Host.Outcome (PortOut × Clocked) Fault Refusal :=
  match i.rst, c.inFlight with
  | true, _ =>
    .next ({ reqReady := false, rsp := none }, { block := c.block.applyReset, inFlight := none })
  | false, none =>
    let accepted : Option InFlight :=
      if i.reqValid then some { word := i.req, left := requestLatency lat i.req } else none
    .next ({ reqReady := true, rsp := none }, { block := c.block, inFlight := accepted })
  | false, some f =>
    if f.left ≤ 1 then
      match performRequest f.word c.block with
      | .next s' =>
        .next ({ reqReady := false, rsp := completionResponse f.word s' },
          { block := s', inFlight := none })
      | .fault r => .fault r
      | .refused r => .refused r
    else
      .next ({ reqReady := false, rsp := none },
        { block := c.block, inFlight := some { word := f.word, left := f.left - 1 } })

/-- A run of clock cycles: the outputs of each, first cycle first, and the block after the last. -/
def runCycles (lat : Latencies) : List PortIn → Clocked →
    Host.Outcome (List PortOut × Clocked) Fault Refusal
  | [], c => .next ([], c)
  | i :: is, c =>
    match cycle lat i c with
    | .next (o, c') =>
      match runCycles lat is c' with
      | .next (os, c'') => .next (o :: os, c'')
      | .fault r => .fault r
      | .refused r => .refused r
    | .fault r => .fault r
    | .refused r => .refused r

end Sys2Proof.Machine
end

