-- ==== Sys2Proof/Machine/Instances.lean ====
section
/-! DEFINITION. Several independent blocks (spec/20_memory.md R76, spec/60_exceptions.md R283): each with
its own registers and its own port, and no shared state, signal or identifier. Their number is OPEN
(spec/00_scope.md R5): the length of the list. -/

namespace Sys2Proof.Machine

/-- The instances side by side. -/
abbrev Instances := List State

/-- One instance takes a step; the others are not touched. -/
def stepInstance (xs : Instances) (k : Fin xs.length) : Host.Outcome Instances Fault Refusal :=
  match step (xs.get k) with
  | .next s' => .next (xs.set k.val s')
  | .fault r => .fault r
  | .refused r => .refused r

end Sys2Proof.Machine
end

