-- ==== Sys2Proof/Machine/Reference.lean ====
section
/-! DEFINITION. Reference forms of the two conversions, for claims to compare the block with.
`Exact`: as band1 and the vendor's text write them, in ℤ, with no wrap, no stage types and no flags, which
is what the block computes when no intermediate leaves its 32-bit type (spec/42_temperature.md, its opening
quotes; spec/93_implementation_defined.md U1 and GK1).
`Wrapped`: the same formulas in the block's 32-bit arithmetic, with a wrap only where a result can leave its
type (R200, R225, R226, R229, R230, R235), and the conditions of spec/43_pressure.md R237 under which a
flag is set.
A shift right by n is a floor division by 2^n (R125); `Int.bmod r (2^32)` and `r % 2^32` are the s32 and
the u32 congruent to r. -/

namespace Sys2Proof.Machine

/-- band1's `X1 = ((rawTemperature − AC6) * AC5) >> 15`. -/
def Exact.x1 (c : Coefficients) (ut : Half) : Int :=
  ((sext16 ut - zext16 c.ac6) * zext16 c.ac5) / 2 ^ 15

/-- band1's divisor `X1 + MD`. -/
def Exact.divisor (c : Coefficients) (ut : Half) : Int :=
  Exact.x1 c ut + sext16 c.md

/-- band1's `B5 = X1 + X2` with `X2 = (MC << 11) / (X1 + MD)`, rounded toward minus infinity (R127). -/
def Exact.b5 (c : Coefficients) (ut : Half) : Int :=
  Exact.x1 c ut + Int.fdiv (sext16 c.mc * 2048) (Exact.divisor c ut)

/-- band1's `(B5 + 8) >> 4`, tenths of a degree Celsius. -/
def Exact.temperature (c : Coefficients) (ut : Half) : Int :=
  (Exact.b5 c ut + 8) / 16

/-- The vendor's B6. -/
def Exact.b6 (b5 : Int) : Int := b5 - 4000

/-- The vendor's B3 with its X1, X2, X3. -/
def Exact.b3 (c : Coefficients) (b5 : Int) : Int :=
  let b6 := Exact.b6 b5
  let x1 := (sext16 c.b2 * (b6 * b6 / 2 ^ 12)) / 2 ^ 11
  let x2 := (sext16 c.ac2 * b6) / 2 ^ 11
  (sext16 c.ac1 * 4 + (x1 + x2) + 2) / 4

/-- The vendor's B4 with its X1, X2, X3. -/
def Exact.b4 (c : Coefficients) (b5 : Int) : Int :=
  let b6 := Exact.b6 b5
  let x1 := (sext16 c.ac3 * b6) / 2 ^ 13
  let x2 := (sext16 c.b1 * (b6 * b6 / 2 ^ 12)) / 2 ^ 16
  (zext16 c.ac4 * ((x1 + x2 + 2) / 4 + 32768)) / 2 ^ 15

/-- The vendor's B7. -/
def Exact.b7 (c : Coefficients) (b5 up : Int) : Int :=
  (up - Exact.b3 c b5) * 50000

/-- The carry-boundary branch: `(B7 << 1) / B4` below 0x8000_0000, else `(B7 / B4) << 1`. -/
def Exact.quotient (c : Coefficients) (b5 up : Int) : Int :=
  if Exact.b7 c b5 up < 2147483648 then Exact.b7 c b5 up * 2 / Exact.b4 c b5
  else Exact.b7 c b5 up / Exact.b4 c b5 * 2

/-- The second-order correction of the quotient. -/
def Exact.correct (p : Int) : Int :=
  p + ((p / 2 ^ 8) * (p / 2 ^ 8) * 3038 / 2 ^ 16 + -7357 * p / 2 ^ 16 + 3791) / 2 ^ 4

/-- The pressure in pascals. -/
def Exact.pressure (c : Coefficients) (b5 up : Int) : Int :=
  Exact.correct (Exact.quotient c b5 up)

/-! ## In 32-bit arithmetic -/

/-- The exact product of stage T2, the only result of TEMP that can leave its type (R192, R200). -/
def Wrapped.product (c : Coefficients) (ut : Half) : Int :=
  (ut.toInt - c.ac6.toNat) * c.ac5.toNat

/-- band1's X1 (R193). -/
def Wrapped.x1 (c : Coefficients) (ut : Half) : Int :=
  Int.bmod (Wrapped.product c ut) (2 ^ 32) / 2 ^ 15

/-- band1's `X1 + MD` (R195). -/
def Wrapped.divisor (c : Coefficients) (ut : Half) : Int :=
  Wrapped.x1 c ut + c.md.toInt

/-- band1's B5 (R196, R197). -/
def Wrapped.b5 (c : Coefficients) (ut : Half) : Int :=
  Wrapped.x1 c ut + Int.fdiv (c.mc.toInt * 2048) (Wrapped.divisor c ut)

/-- B6 (R221). -/
def Wrapped.b6 (b5 : Word) : Int :=
  Int.bmod (b5.toInt - 4000) (2 ^ 32)

/-- `(B6 × B6) >> 12` (R222). -/
def Wrapped.k (b5 : Word) : Int :=
  Int.bmod (Wrapped.b6 b5 * Wrapped.b6 b5) (2 ^ 32) / 2 ^ 12

/-- B3 with the first X1, X2, X3 (R223 to R226). -/
def Wrapped.b3 (c : Coefficients) (b5 : Word) : Int :=
  (c.ac1.toInt * 4
    + (Int.bmod (c.b2.toInt * Wrapped.k b5) (2 ^ 32) / 2 ^ 11
      + Int.bmod (c.ac2.toInt * Wrapped.b6 b5) (2 ^ 32) / 2 ^ 11) + 2) / 4

/-- The second X3 with its X1, X2 (R227 to R229). -/
def Wrapped.x3 (c : Coefficients) (b5 : Word) : Int :=
  (Int.bmod (c.ac3.toInt * Wrapped.b6 b5) (2 ^ 32) / 2 ^ 13
    + Int.bmod (c.b1.toInt * Wrapped.k b5) (2 ^ 32) / 2 ^ 16 + 2) / 4

/-- `AC4 × (unsigned)(X3 + 32768)`, exact (R230). -/
def Wrapped.scaled (c : Coefficients) (b5 : Word) : Int :=
  c.ac4.toNat * ((Wrapped.x3 c b5 + 32768) % 2 ^ 32)

/-- B4 (R230). -/
def Wrapped.b4 (c : Coefficients) (b5 : Word) : Int :=
  Wrapped.scaled c b5 % 2 ^ 32 / 2 ^ 15

/-- `(unsigned)UP − B3` (R231). -/
def Wrapped.difference (c : Coefficients) (b5 up : Word) : Int :=
  (up.toInt - Wrapped.b3 c b5) % 2 ^ 32

/-- B7 (R231). -/
def Wrapped.b7 (c : Coefficients) (b5 up : Word) : Int :=
  Wrapped.difference c b5 up * 50000 % 2 ^ 32

/-- The quotient of the branch taken (R232). -/
def Wrapped.quotient (c : Coefficients) (b5 up : Word) : Int :=
  if Wrapped.b7 c b5 up < 2 ^ 31 then Wrapped.b7 c b5 up * 2 / Wrapped.b4 c b5
  else Wrapped.b7 c b5 up / Wrapped.b4 c b5 * 2 % 2 ^ 32

/-- The quotient as a signed value (R232, R130). -/
def Wrapped.p0 (c : Coefficients) (b5 up : Word) : Int :=
  Int.bmod (Wrapped.quotient c b5 up) (2 ^ 32)

/-- `(p >> 8) × (p >> 8)` (R233). -/
def Wrapped.square (p0 : Int) : Int :=
  Int.bmod (p0 / 2 ^ 8 * (p0 / 2 ^ 8)) (2 ^ 32)

/-- The final pressure, exact, from the quotient (R233 to R235). -/
def Wrapped.corrected (p0 : Int) : Int :=
  p0 + (Int.bmod (Wrapped.square p0 * 3038) (2 ^ 32) / 2 ^ 16
    + Int.bmod (-7357 * p0) (2 ^ 32) / 2 ^ 16 + 3791) / 2 ^ 4

/-- Above the range of s32. -/
def Wrapped.aboveS32 (r : Int) : Bool := decide (2147483647 < r)

/-- Below the range of s32. -/
def Wrapped.belowS32 (r : Int) : Bool := decide (r < -2147483648)

/-- R237, stages P1 to P11: what sets OVF. -/
def Wrapped.ovfBefore (c : Coefficients) (b5 up : Word) : Bool :=
  decide (46341 ≤ Wrapped.b6 b5 ∨ Wrapped.b6 b5 ≤ -46341)
    || Wrapped.aboveS32 (c.b2.toInt * Wrapped.k b5)
    || Wrapped.aboveS32 (c.ac2.toInt * Wrapped.b6 b5)
    || Wrapped.aboveS32 (c.ac3.toInt * Wrapped.b6 b5)
    || Wrapped.aboveS32 (c.b1.toInt * Wrapped.k b5)
    || decide (4294967295 < Wrapped.scaled c b5)
    || decide (85900 ≤ Wrapped.difference c b5 up)

/-- R237, stages P1 to P11: what sets UNF. -/
def Wrapped.unfBefore (c : Coefficients) (b5 up : Word) : Bool :=
  decide (b5.toInt < -2147479648)
    || Wrapped.belowS32 (c.b2.toInt * Wrapped.k b5)
    || Wrapped.belowS32 (c.ac2.toInt * Wrapped.b6 b5)
    || Wrapped.belowS32 (c.ac3.toInt * Wrapped.b6 b5)
    || Wrapped.belowS32 (c.b1.toInt * Wrapped.k b5)
    || decide (Wrapped.x3 c b5 < -32768)
    || decide (up.toInt < Wrapped.b3 c b5)

/-- R237, stages P12 to P15: what sets OVF. -/
def Wrapped.ovfAfter (c : Coefficients) (b5 up : Word) : Bool :=
  decide (Wrapped.b4 c b5 = 1 ∧ 2 ^ 31 ≤ Wrapped.b7 c b5 up)
    || decide (2147483648 ≤ Wrapped.quotient c b5 up)
    || decide (46341 ≤ Wrapped.p0 c b5 up / 2 ^ 8 ∨ Wrapped.p0 c b5 up / 2 ^ 8 ≤ -46341)
    || decide (706875 ≤ Wrapped.square (Wrapped.p0 c b5 up))
    || decide (Wrapped.p0 c b5 up < -291896)
    || Wrapped.aboveS32 (Wrapped.corrected (Wrapped.p0 c b5 up))

/-- R237, stages P12 to P15: what sets UNF. -/
def Wrapped.unfAfter (c : Coefficients) (b5 up : Word) : Bool :=
  Wrapped.belowS32 (Wrapped.square (Wrapped.p0 c b5 up) * 3038)
    || decide (291896 < Wrapped.p0 c b5 up)
    || Wrapped.belowS32 (Wrapped.corrected (Wrapped.p0 c b5 up))

end Sys2Proof.Machine
end

