-- ==== Sys2Proof/Safety.lean ====
section
/-! DEFINITION. The terms claims use: what holds of a well-kept register file, when a result is one band1
guarantees (spec/70_reset_and_hazards.md R307, spec/93_implementation_defined.md U1), and the order of
requests a host must keep (R302 to R306), which the block does not check. -/

namespace Sys2Proof.Machine

/-- No stage result since the last CLR left its type's range (R28, R307). -/
def Status.rangeClean (f : Status) : Prop := f.ovf = false ∧ f.unf = false

/-- The invariant of the register file (R28, R199, R274): an error flag and the valid flag of the same
command are never set together, and while TV is set T and B5 are a pair that one TEMP produced, B5 in
TEMP's range (R200). -/
structure State.Inv (s : State) : Prop where
  terr_excludes_tv : s.status.terr = true → s.status.tv = false
  perr_excludes_pv : s.status.perr = true → s.status.pv = false
  pair : s.status.tv = true →
    sext32 s.t = (sext32 s.b5 + 8) / 16 ∧ -67174400 ≤ sext32 s.b5 ∧ sext32 s.b5 ≤ 67174399

/-! ## The host's duties (R302, R304, R306) -/

/-- What a host must remember to keep the order of R302. -/
structure HostTrack where
  /-- The coefficients not yet written this session (R302, step 1; MB is not needed). -/
  unloaded : List Reg
  /-- A raw temperature has been written and not yet converted (step 2). -/
  utWritten : Bool
  /-- A raw pressure has been written and not yet converted (step 4). -/
  upWritten : Bool
  /-- TEMP has run in this poll cycle with no write since of UT, B5 or a coefficient (R304). -/
  b5Current : Bool
  deriving DecidableEq, Repr

/-- A session begins with nothing loaded. -/
def HostTrack.start : HostTrack :=
  { unloaded := [.ac1, .ac2, .ac3, .ac4, .ac5, .ac6, .b1, .b2, .mc, .md],
    utWritten := false, upWritten := false, b5Current := false }

/-- A coefficient write loads it, and makes B5 stale (R304, R306). -/
def HostTrack.loads (h : HostTrack) (r : Reg) : HostTrack :=
  { h with unloaded := h.unloaded.erase r, b5Current := false }

/-- What the host remembers after an instruction. -/
def HostTrack.after (h : HostTrack) : Instr → HostTrack
  | .rdAc1 | .rdAc2 | .rdAc3 | .rdAc4 | .rdAc5 | .rdAc6 | .rdB1 | .rdB2 | .rdMb | .rdMc | .rdMd
  | .rdUt | .rdUp | .rdB5 | .rdT | .rdP | .rdCmd | .rdStatus => h
  | .wrAc1 _ => h.loads .ac1
  | .wrAc2 _ => h.loads .ac2
  | .wrAc3 _ => h.loads .ac3
  | .wrAc4 _ => h.loads .ac4
  | .wrAc5 _ => h.loads .ac5
  | .wrAc6 _ => h.loads .ac6
  | .wrB1 _ => h.loads .b1
  | .wrB2 _ => h.loads .b2
  | .wrMb _ => h.loads .mb
  | .wrMc _ => h.loads .mc
  | .wrMd _ => h.loads .md
  | .wrUt _ => { h with utWritten := true, b5Current := false }
  | .wrUp _ => { h with upWritten := true }
  | .wrB5 _ => { h with b5Current := false }
  | .nop => h
  | .temp => { h with utWritten := false, b5Current := true }
  | .pres => { h with upWritten := false, b5Current := false }
  | .clr => h

/-- Whether R302's order allows the host to issue the instruction: TEMP after the coefficients and a raw
temperature; PRES after a raw pressure and a TEMP of the same poll cycle that succeeded (R278, R304: STATUS
shows TV = 1). Every other request is always allowed. -/
def HostTrack.allows (h : HostTrack) (s : State) : Instr → Bool
  | .temp => h.unloaded.isEmpty && h.utWritten
  | .pres => h.b5Current && h.upWritten && s.status.tv
  | .rdAc1 | .rdAc2 | .rdAc3 | .rdAc4 | .rdAc5 | .rdAc6 | .rdB1 | .rdB2 | .rdMb | .rdMc | .rdMd
  | .rdUt | .rdUp | .rdB5 | .rdT | .rdP | .rdCmd | .rdStatus => true
  | .wrAc1 _ | .wrAc2 _ | .wrAc3 _ | .wrAc4 _ | .wrAc5 _ | .wrAc6 _ | .wrB1 _ | .wrB2 _ | .wrMb _
  | .wrMc _ | .wrMd _ | .wrUt _ | .wrUp _ | .wrB5 _ => true
  | .nop | .clr => true

/-- A run of the host's instructions in which each one is allowed when it is issued: the host's memory and
the block afterwards; `none` if some instruction is not allowed or does not answer a next state. -/
def hostRun : List Instr → HostTrack → State → Option (HostTrack × State)
  | [], h, s => some (h, s)
  | i :: is, h, s =>
    if h.allows s i then
      match exec i s with
      | .next s' => hostRun is (h.after i) s'
      | .fault _ => none
      | .refused _ => none
    else none

end Sys2Proof.Machine
end

