-- ==== Sys2Proof/Certificates/Slice0/Obligations.lean ====
section
/-! DEFINITION. The statements about the model, one `def Obligations.<Name> : Prop` each. They follow the
numbered rules of spec/; what each rests on is said in its docstring and in OBLIGATIONS.json. -/

open Sys2Proof Sys2Proof.Machine

/-! ## Encoding -/

/-- R96: words written out from the match column, with arbitrary ignored or operand bits, decode to the
instruction of their row. -/
def Obligations.TableWordsDecodeToTheirRows : Prop :=
  decode 0x00DEADBEEF#40 = .ok .rdAc1 ∧ decode 0x0F00000000#40 = .ok .rdP ∧
  decode 0x1100000000#40 = .ok .rdStatus ∧ decode 0x82FFFFC7D1#40 = .ok (.wrAc3 0xFFFFC7D1#32) ∧
  decode 0x8D0000095F#40 = .ok (.wrB5 0x95F#32) ∧ decode 0x90ABCDEF00#40 = .ok .nop ∧
  decode 0x9000000101#40 = .ok .temp ∧ decode 0x9000000002#40 = .ok .pres ∧
  decode 0x90FFFFFF03#40 = .ok .clr

/-- R90, R96: every well-formed instruction, with every value of its operand, decodes from its own word. -/
def Obligations.DecodeUndoesEncode : Prop :=
  ∀ i : Instr, i.WellFormed → decode (encode i) = .ok i

/-- R96: a word w is the instruction of a row exactly when `w & mask = match`, with DATA as its operand. -/
def Obligations.DecodeIsMatchAndMask : Prop :=
  ∀ (w : Request) (i : Instr),
    decode w = .ok i ↔
      w &&& i.opMask = i.opMatch ∧ i.withValue (BitVec.ofNat 32 (w.toNat % 2 ^ 32)) = i

/-- R96: the rows are pairwise disjoint. -/
def Obligations.RowsAreDisjoint : Prop :=
  ∀ (w : Request) (i j : Instr),
    w &&& i.opMask = i.opMatch → w &&& j.opMask = j.opMatch → i.withValue 0#32 = j.withValue 0#32

/-- R97: the reserved words are exactly the four parts of its table, fields read as numbers. -/
def Obligations.ReservedSpaceIsItsFourParts : Prop :=
  ∀ w : Request,
    let isWrite := w.toNat / 2 ^ 39
    let idx := w.toNat / 2 ^ 32 % 128
    let code := w.toNat % 256
    ((∃ r, decode w = .error r) ↔
      (isWrite = 0 ∧ 18 ≤ idx) ∨ (isWrite = 1 ∧ (idx = 14 ∨ idx = 15 ∨ idx = 17)) ∨
      (isWrite = 1 ∧ 18 ≤ idx) ∨ (isWrite = 1 ∧ idx = 16 ∧ 4 ≤ code))

/-- R98: DATA of a RD, DATA[31:8] of a command and DATA[31:16] of a WR to a 16-bit register are ignored. -/
def Obligations.IgnoredBitsChangeNothing : Prop :=
  ∀ (i : RegIndex) (d e : Word) (s : State),
    performRequest (Request.mk false i d) s = performRequest (Request.mk false i e) s ∧
    (d.toNat % 256 = e.toNat % 256 →
      performRequest (Request.mk true 16#7 d) s = performRequest (Request.mk true 16#7 e) s) ∧
    (i.toNat < 12 → d.toNat % 65536 = e.toNat % 65536 →
      performRequest (Request.mk true i d) s = performRequest (Request.mk true i e) s)

/-! ## RD and WR -/

/-- R161, R66: RD of a 16-bit register completes with the register's typed value, sign-extended or
zero-extended to 32 bits, as its one response, and changes nothing else. -/
def Obligations.ReadsOf16BitRegistersExtend : Prop :=
  ∀ s : State,
    let answer := fun d : Word =>
      (.next { s with responses := s.responses ++ [d] } : Host.Outcome State Fault Refusal)
    exec .rdAc1 s = answer (BitVec.ofInt 32 s.cal.ac1.toInt) ∧
    exec .rdAc2 s = answer (BitVec.ofInt 32 s.cal.ac2.toInt) ∧
    exec .rdAc3 s = answer (BitVec.ofInt 32 s.cal.ac3.toInt) ∧
    exec .rdAc4 s = answer (BitVec.ofNat 32 s.cal.ac4.toNat) ∧
    exec .rdAc5 s = answer (BitVec.ofNat 32 s.cal.ac5.toNat) ∧
    exec .rdAc6 s = answer (BitVec.ofNat 32 s.cal.ac6.toNat) ∧
    exec .rdB1 s = answer (BitVec.ofInt 32 s.cal.b1.toInt) ∧
    exec .rdB2 s = answer (BitVec.ofInt 32 s.cal.b2.toInt) ∧
    exec .rdMb s = answer (BitVec.ofInt 32 s.cal.mb.toInt) ∧
    exec .rdMc s = answer (BitVec.ofInt 32 s.cal.mc.toInt) ∧
    exec .rdMd s = answer (BitVec.ofInt 32 s.cal.md.toInt) ∧
    exec .rdUt s = answer (BitVec.ofInt 32 s.ut.toInt)

/-- R161, R66, R26, R27: RD of UP, B5, T and P completes with the 32-bit pattern, RD CMD with 0, and RD
STATUS with the eight flags in bits 7 to 0; nothing else changes. -/
def Obligations.ReadsOf32BitRegistersCmdAndStatus : Prop :=
  ∀ s : State,
    let answer := fun d : Word =>
      (.next { s with responses := s.responses ++ [d] } : Host.Outcome State Fault Refusal)
    exec .rdUp s = answer s.up ∧ exec .rdB5 s = answer s.b5 ∧ exec .rdT s = answer s.t ∧
    exec .rdP s = answer s.p ∧ exec .rdCmd s = answer 0#32 ∧
    ∃ d : Word, exec .rdStatus s = answer d ∧
      d.toNat = s.status.tv.toNat + 2 * s.status.pv.toNat + 4 * s.status.terr.toNat
        + 8 * s.status.perr.toNat + 16 * s.status.b7hi.toNat + 32 * s.status.ovf.toNat
        + 64 * s.status.unf.toNat + 128 * s.status.ill.toNat

/-- R162, R67: WR of a coefficient completes by storing DATA[15:0] in that register alone, with no
response and no flag. -/
def Obligations.WritesOfCoefficientsStoreLow16 : Prop :=
  ∀ (s : State) (v : Word),
    let low := BitVec.ofNat 16 v.toNat
    let keep := fun c : Coefficients =>
      (.next { s with cal := c } : Host.Outcome State Fault Refusal)
    exec (.wrAc1 v) s = keep { s.cal with ac1 := low } ∧
    exec (.wrAc2 v) s = keep { s.cal with ac2 := low } ∧
    exec (.wrAc3 v) s = keep { s.cal with ac3 := low } ∧
    exec (.wrAc4 v) s = keep { s.cal with ac4 := low } ∧
    exec (.wrAc5 v) s = keep { s.cal with ac5 := low } ∧
    exec (.wrAc6 v) s = keep { s.cal with ac6 := low } ∧
    exec (.wrB1 v) s = keep { s.cal with b1 := low } ∧
    exec (.wrB2 v) s = keep { s.cal with b2 := low } ∧
    exec (.wrMb v) s = keep { s.cal with mb := low } ∧
    exec (.wrMc v) s = keep { s.cal with mc := low } ∧
    exec (.wrMd v) s = keep { s.cal with md := low }

/-- R162, R67, R28: WR UT stores DATA[15:0], WR UP and WR B5 all of DATA; WR B5 clears TV and no other flag
changes; no response. -/
def Obligations.WritesOfSampleAndB5 : Prop :=
  ∀ (s : State) (v : Word),
    exec (.wrUt v) s = .next { s with ut := BitVec.ofNat 16 v.toNat } ∧
    exec (.wrUp v) s = .next { s with up := v } ∧
    exec (.wrB5 v) s = .next { s with b5 := v, status := { s.status with tv := false } }

/-- R66, R67: a WR word to a writable register completes; reading the register then gives the value
written, truncated and extended as its type says; reading any other register but STATUS, or any reserved
index, gives what it gave before; and STATUS is unchanged but for TV, which WR B5 clears. -/
def Obligations.ReadAfterWrite : Prop :=
  ∀ (i : RegIndex) (d : Word) (s : State), i.toNat ≤ 13 →
    ∃ s', performRequest (Request.mk true i d) s = .next s' ∧
      (3 ≤ i.toNat ∧ i.toNat ≤ 5 → (memRead i s').1.toNat = d.toNat % 65536) ∧
      (i.toNat < 3 ∨ (5 < i.toNat ∧ i.toNat < 12) →
        (memRead i s').1.toInt = Int.bmod d.toNat 65536) ∧
      (12 ≤ i.toNat → (memRead i s').1 = d) ∧
      (∀ j : RegIndex, j ≠ i → j ≠ 17#7 → (memRead j s').1 = (memRead j s).1) ∧
      s'.status = { s.status with tv := s.status.tv && !(i == 13#7) }

/-- R66, R67, R164: performing a request word is MemRead with a response, or MemWrite, of its index and
DATA. -/
def Obligations.RequestsAreMemReadAndMemWrite : Prop :=
  ∀ (w : Request) (s : State),
    performRequest w s =
      if w.toNat / 2 ^ 39 = 0 then
        .next ((memRead (Request.idx w) s).2.respond (memRead (Request.idx w) s).1)
      else memWrite (Request.idx w) (Request.data w) s

/-! ## NOP, CLR and the reserved requests -/

/-- R165: the words with W = 1, IDX = 16 and DATA[7:0] = 0x00 are NOP, and NOP completes with the state as
it was: no register, no flag, no response. -/
def Obligations.NopChangesNothing : Prop :=
  (∀ w : Request, w.toNat / 2 ^ 32 = 0x90 → w.toNat % 256 = 0 → decode w = .ok .nop) ∧
  (∀ s : State, exec .nop s = .next s)

/-- R166: the words with W = 1, IDX = 16 and DATA[7:0] = 0x03 are CLR; CLR completes with TERR, PERR, OVF,
UNF and ILL cleared and everything else as it was; and it is idempotent. -/
def Obligations.ClrClearsFiveFlags : Prop :=
  (∀ w : Request, w.toNat / 2 ^ 32 = 0x90 → w.toNat % 256 = 3 → decode w = .ok .clr) ∧
  (∀ s : State, exec .clr s =
    .next { s with status := { s.status with
      terr := false, perr := false, ovf := false, unf := false, ill := false } }) ∧
  (∀ s s' : State, exec .clr s = .next s' → exec .clr s' = .next s')

/-- R167, R29, R163: a word with IDX 18 to 127, a WR to T, P or STATUS, and a command code 0x04 to 0xFF
completes: ILL is set, 0x0000_0000 is the response when W = 0, and nothing else changes; and ILL then stays
set until CLR or reset. -/
def Obligations.ReservedRequestSetsIll : Prop :=
  (∀ (w : Request) (s : State),
    let isWrite := w.toNat / 2 ^ 39
    let idx := w.toNat / 2 ^ 32 % 128
    18 ≤ idx ∨ (isWrite = 1 ∧ (idx = 14 ∨ idx = 15 ∨ idx = 17)) ∨
      (isWrite = 1 ∧ idx = 16 ∧ 4 ≤ w.toNat % 256) →
    performRequest w s = .next { s with
      status := { s.status with ill := true },
      responses := if isWrite = 0 then s.responses ++ [0#32] else s.responses }) ∧
  (∀ s s' : State, step s = .next s' → s.status.ill = true → s'.status.ill = false →
    (∃ w rest, s.port = .request w :: rest ∧ decode w = .ok .clr) ∨ (∃ q rest, s.port = .reset q :: rest))

/-! ## TEMP -/

/-- R190 to R199: with a divisor other than 0, TEMP completes: B5 and T are band1's formulas in 32-bit
arithmetic, TV is set, TERR cleared, UNF set when the product of stage T2 is below its range; OVF and
everything else are unchanged. -/
def Obligations.TempCommitsBothResults : Prop :=
  ∀ s : State, Wrapped.divisor s.cal s.ut ≠ 0 →
    exec .temp s = .next { s with
      b5 := BitVec.ofInt 32 (Wrapped.b5 s.cal s.ut)
      t := BitVec.ofInt 32 ((Wrapped.b5 s.cal s.ut + 8) / 16)
      status := { s.status with
        tv := true
        terr := false
        unf := s.status.unf || decide (Wrapped.product s.cal s.ut < -2147483648) } }

/-- R271, R274, R276: with the divisor 0, TEMP raises CalibrationError cause 1: TERR set, TV cleared, B5 and T
and everything else unchanged but for a UNF of stage T2; TEMP leaves TERR set in no other case; and with
every register at its reset value it is raised. -/
def Obligations.TempRaisesCalibrationError : Prop :=
  (∀ s : State, Wrapped.divisor s.cal s.ut = 0 →
    exec .temp s = .next { s with status := { s.status with
      terr := true
      tv := false
      unf := s.status.unf || decide (Wrapped.product s.cal s.ut < -2147483648) } }) ∧
  (∀ s s' : State, exec .temp s = .next s' → s'.status.terr = true → Wrapped.divisor s.cal s.ut = 0) ∧
  (∃ s', exec .temp State.reset = .next s' ∧ s'.status.terr = true)

/-- R200: the range of every stage value of TEMP, and which flags a stage can set: UNF at T2, exactly below
−2^31, and no other. -/
def Obligations.TempStageRanges : Prop :=
  ∀ (c : Coefficients) (ut : Half),
    let exactM := (Temp.tD c ut).val * c.ac5.toNat
    (-98303 ≤ (Temp.tD c ut).val ∧ (Temp.tD c ut).val ≤ 32767) ∧
    (-6442287105 ≤ exactM ∧ exactM ≤ 2147385345) ∧
    (-65536 ≤ Temp.tX1 c ut ∧ Temp.tX1 c ut ≤ 65535) ∧
    (-67108864 ≤ (Temp.tN c).val ∧ (Temp.tN c).val ≤ 67106816) ∧
    (-98304 ≤ (Temp.tS c ut).val ∧ (Temp.tS c ut).val ≤ 98302) ∧
    ((Temp.tS c ut).val ≠ 0 →
      (-67108864 ≤ (Temp.tX2 c ut).val ∧ (Temp.tX2 c ut).val ≤ 67108864) ∧
      (-67174400 ≤ (Temp.tB5 c ut).val ∧ (Temp.tB5 c ut).val ≤ 67174399) ∧
      (-4198400 ≤ Temp.tT c ut ∧ Temp.tT c ut ≤ 4198400)) ∧
    ((Temp.tM c ut).below = true ↔ exactM < -2147483648) ∧ (Temp.tM c ut).above = false ∧
    (∀ x ∈ [Temp.tD c ut, Temp.tN c, Temp.tS c ut] ++ Temp.afterCheck c ut,
      x.above = false ∧ x.below = false)

/-- R190: the frame of TEMP, whether it commits or raises: no coefficient, UT, UP or P, and none of PV,
PERR, B7HI, ILL and OVF (R200) changes; every register but B5, T and STATUS reads as before; no response. -/
def Obligations.TempFrame : Prop :=
  ∀ s s' : State, exec .temp s = .next s' →
    s'.cal = s.cal ∧ s'.ut = s.ut ∧ s'.up = s.up ∧ s'.p = s.p ∧
    s'.status.pv = s.status.pv ∧ s'.status.perr = s.status.perr ∧
    s'.status.b7hi = s.status.b7hi ∧ s'.status.ill = s.status.ill ∧ s'.status.ovf = s.status.ovf ∧
    (s.status.unf = true → s'.status.unf = true) ∧
    s'.port = s.port ∧ s'.responses = s.responses ∧
    (∀ r : Reg, r ≠ .b5 → r ≠ .t → r ≠ .status → readReg r s' = readReg r s)

/-- R201: TEMP's result is a function of UT, AC5, AC6, MC and MD alone; it does not change its inputs; and
issuing it twice in a row leaves what issuing it once leaves. -/
def Obligations.TempIsPure : Prop :=
  (∀ s1 s2 s1' s2' : State,
    s1.ut = s2.ut → s1.cal.ac5 = s2.cal.ac5 → s1.cal.ac6 = s2.cal.ac6 → s1.cal.mc = s2.cal.mc →
    s1.cal.md = s2.cal.md →
    exec .temp s1 = .next s1' → exec .temp s2 = .next s2' →
    s1'.status.tv = s2'.status.tv ∧ s1'.status.terr = s2'.status.terr ∧
    (s1'.status.tv = true → s1'.b5 = s2'.b5 ∧ s1'.t = s2'.t)) ∧
  (∀ s s' : State, exec .temp s = .next s' →
    s'.ut = s.ut ∧ s'.cal = s.cal ∧ exec .temp s' = .next s')

/-- U1, R307: when UNF is clear after TEMP (so it was clear before it) and the command succeeds, B5 and T are
band1's formulas computed exactly in ℤ. That band1's `/` is read as floor division is the spec's decision D8
(R127; log entry 14), not band1's word. -/
def Obligations.TempAgreesWithBand1 : Prop :=
  ∀ s s' : State, exec .temp s = .next s' → s'.status.tv = true → s'.status.unf = false →
    Exact.divisor s.cal s.ut ≠ 0 ∧
    sext32 s'.b5 = Exact.b5 s.cal s.ut ∧ sext32 s'.t = Exact.temperature s.cal s.ut

/-! ## PRES -/

/-- R220 to R236, R237: with B4 other than 0, PRES completes: P is the vendor's formula in 32-bit arithmetic,
PV is set, PERR cleared, B7HI says which branch ran, and OVF and UNF are set exactly under the conditions
of R237; everything else is unchanged. The formula's constants are those the spec marks as general knowledge
(GK1; log entry 3). -/
def Obligations.PresCommitsThePressure : Prop :=
  ∀ s : State, Wrapped.b4 s.cal s.b5 ≠ 0 →
    exec .pres s = .next { s with
      p := BitVec.ofInt 32 (Wrapped.corrected (Wrapped.p0 s.cal s.b5 s.up))
      status := { s.status with
        pv := true
        perr := false
        b7hi := decide (2147483648 ≤ Wrapped.b7 s.cal s.b5 s.up)
        ovf := s.status.ovf || (Wrapped.ovfBefore s.cal s.b5 s.up || Wrapped.ovfAfter s.cal s.b5 s.up)
        unf := s.status.unf || (Wrapped.unfBefore s.cal s.b5 s.up || Wrapped.unfAfter s.cal s.b5 s.up) } }

/-- R272, R274, R276: with B4 = 0, PRES raises CalibrationError cause 2: PERR set, PV cleared, P, B7HI and
everything else unchanged but for the flags of stages P1 to P11; PRES leaves PERR set in no other case;
B4 is 0 exactly when `AC4 × pU mod 2^32 < 32768`; and with every register at its reset value it is raised. -/
def Obligations.PresRaisesCalibrationError : Prop :=
  (∀ s : State, Wrapped.b4 s.cal s.b5 = 0 →
    exec .pres s = .next { s with status := { s.status with
      perr := true
      pv := false
      ovf := s.status.ovf || Wrapped.ovfBefore s.cal s.b5 s.up
      unf := s.status.unf || Wrapped.unfBefore s.cal s.b5 s.up } }) ∧
  (∀ s s' : State, exec .pres s = .next s' → s'.status.perr = true → Wrapped.b4 s.cal s.b5 = 0) ∧
  (∀ s : State, Wrapped.b4 s.cal s.b5 = 0 ↔ s.cal.ac4.toNat * (Pres.pU s.cal s.b5).val % 4294967296 < 32768) ∧
  (∃ s', exec .pres State.reset = .next s' ∧ s'.status.perr = true)

/-- R225, R226, R229, R230, R232, R235, R237: the stages of PRES that can set no flag, and their ranges. -/
def Obligations.PresStagesThatCannotFlag : Prop :=
  ∀ (c : Coefficients) (b5 up : Word) (p0 : Int), -2147483648 ≤ p0 → p0 ≤ 2147483647 →
    (-1048576 ≤ Pres.pX1a c b5 ∧ Pres.pX1a c b5 ≤ 1048575) ∧
    (-1048576 ≤ Pres.pX2a c b5 ∧ Pres.pX2a c b5 ≤ 1048575) ∧
    (-131072 ≤ (Pres.pE c).val ∧ (Pres.pE c).val ≤ 131068) ∧
    (-262144 ≤ Pres.pX1b c b5 ∧ Pres.pX1b c b5 ≤ 262143) ∧
    (-32768 ≤ Pres.pX2b c b5 ∧ Pres.pX2b c b5 ≤ 32767) ∧
    (-73728 ≤ Pres.pX3b c b5 ∧ Pres.pX3b c b5 ≤ 73728) ∧
    (-40960 ≤ (Pres.pV c b5).val ∧ (Pres.pV c b5).val ≤ 106496) ∧
    (-32768 ≤ Pres.pX1c p0 ∧ Pres.pX1c p0 ≤ 32767) ∧
    (-32768 ≤ Pres.pX2c p0 ∧ Pres.pX2c p0 ≤ 32767) ∧
    (Pres.hi c b5 up = false →
      (Pres.pDoubled c b5 up).val = (Pres.pB7 c b5 up).val * 2 ∧
      (Pres.pDoubled c b5 up).above = false ∧ (Pres.pDoubled c b5 up).below = false) ∧
    (∀ x ∈ [Pres.pX3a c b5, Pres.pE c, Pres.pG c b5, Pres.pH c b5, Pres.pI c b5, Pres.pL c b5,
        Pres.pN c b5, Pres.pV c b5, Pres.pZ1 p0, Pres.pZ2 p0], x.above = false ∧ x.below = false)

/-- R221, R222, R230, R231, R232, R233, R234: where the other stages of PRES set their flags. -/
def Obligations.PresFlagConditions : Prop :=
  ∀ (c : Coefficients) (b5 up : Word) (p0 : Int), -2147483648 ≤ p0 → p0 ≤ 2147483647 →
    ((Pres.pB6 b5).below = true ↔ b5.toInt < -2147479648) ∧ (Pres.pB6 b5).above = false ∧
    ((Pres.pQ b5).above = true ↔ 46341 ≤ (Pres.pB6 b5).val ∨ (Pres.pB6 b5).val ≤ -46341) ∧
    (Pres.pQ b5).below = false ∧
    ((Pres.pU c b5).below = true ↔ Pres.pX3b c b5 < -32768) ∧ (Pres.pU c b5).above = false ∧
    ((Pres.pD c b5 up).below = true ↔ up.toInt < Pres.pB3 c b5) ∧
    ((Pres.pB7 c b5 up).above = true ↔ 85900 ≤ (Pres.pD c b5 up).val) ∧
    (Pres.pB4 c b5 ≠ 0 →
      ((Pres.quotientHigh c b5 up).above = true ↔
        Pres.pB4 c b5 = 1 ∧ 2147483648 ≤ (Pres.pB7 c b5 up).val)) ∧
    ((Pres.p0 c b5 up).above = true ↔ 2147483648 ≤ Pres.pQ0 c b5 up) ∧
    ((Pres.pS p0).above = true ↔ 46341 ≤ Pres.pR p0 ∨ Pres.pR p0 ≤ -46341) ∧
    ((Pres.pT p0).above = true ↔ 706875 ≤ (Pres.pS p0).val) ∧
    ((Pres.pY p0).below = true ↔ 291896 < p0) ∧ ((Pres.pY p0).above = true ↔ p0 < -291896)

/-- R230: B4 lies in [0, 131071] and is 0 exactly when `AC4 × pU mod 2^32 < 32768`. -/
def Obligations.B4IsZeroExactlyBelow32768 : Prop :=
  ∀ (c : Coefficients) (b5 : Word),
    0 ≤ Pres.pB4 c b5 ∧ Pres.pB4 c b5 ≤ 131071 ∧
    (Pres.pB4 c b5 = 0 ↔ c.ac4.toNat * (Pres.pU c b5).val % 4294967296 < 32768)

/-- R232: with B4 other than 0, the low branch gives `floor(2 × pB7 / pB4)` and the high branch
`2 × floor(pB7 / pB4)` as a u32, which is even; where it fits, it is less than the low formula by one
exactly when twice the remainder reaches pB4, and else equal to it. -/
def Obligations.CarryBoundaryBranch : Prop :=
  ∀ (c : Coefficients) (b5 up : Word), Pres.pB4 c b5 ≠ 0 →
    let b7 := (Pres.pB7 c b5 up).val
    let b4 := Pres.pB4 c b5
    ((b7 < 2147483648 → Pres.pQ0 c b5 up = 2 * b7 / b4) ∧
      (2147483648 ≤ b7 → Pres.pQ0 c b5 up = 2 * (b7 / b4) % 4294967296 ∧ Pres.pQ0 c b5 up % 2 = 0)) ∧
    (2147483648 ≤ b7 → b4 ≠ 1 →
      Pres.pQ0 c b5 up = 2 * b7 / b4 - (if b4 ≤ 2 * (b7 % b4) then 1 else 0))

/-- R130: at the three crossings the stored pattern is the same and the flag says that the typed value
changed. -/
def Obligations.SignedUnsignedCrossings : Prop :=
  ∀ (c : Coefficients) (b5 up : Word),
    ((Pres.pV c b5).val < 0 →
      (Pres.pU c b5).val = (Pres.pV c b5).val + 4294967296 ∧ (Pres.pU c b5).below = true) ∧
    (0 ≤ (Pres.pV c b5).val →
      (Pres.pU c b5).val = (Pres.pV c b5).val ∧ (Pres.pU c b5).below = false) ∧
    BitVec.ofInt 32 (Pres.pD c b5 up).val = up - BitVec.ofInt 32 (Pres.pB3 c b5) ∧
    ((Pres.pD c b5 up).below = true ↔ up.toInt - Pres.pB3 c b5 < 0) ∧
    ((Pres.pD c b5 up).above = true ↔ 4294967295 < up.toInt - Pres.pB3 c b5) ∧
    (Pres.pB4 c b5 ≠ 0 →
      (2147483648 ≤ Pres.pQ0 c b5 up →
        (Pres.p0 c b5 up).val = Pres.pQ0 c b5 up - 4294967296 ∧ (Pres.p0 c b5 up).above = true) ∧
      (Pres.pQ0 c b5 up < 2147483648 →
        (Pres.p0 c b5 up).val = Pres.pQ0 c b5 up ∧ (Pres.p0 c b5 up).above = false))

/-- R220: the frame of PRES, whether it commits or raises: no coefficient, UT, UP, B5 or T, and none of TV,
TERR and ILL changes; every register but P and STATUS reads as before; no response. -/
def Obligations.PresFrame : Prop :=
  ∀ s s' : State, exec .pres s = .next s' →
    s'.cal = s.cal ∧ s'.ut = s.ut ∧ s'.up = s.up ∧ s'.b5 = s.b5 ∧ s'.t = s.t ∧
    s'.status.tv = s.status.tv ∧ s'.status.terr = s.status.terr ∧ s'.status.ill = s.status.ill ∧
    (s.status.ovf = true → s'.status.ovf = true) ∧ (s.status.unf = true → s'.status.unf = true) ∧
    s'.port = s.port ∧ s'.responses = s.responses ∧
    (∀ r : Reg, r ≠ .p → r ≠ .status → readReg r s' = readReg r s)

/-- R238: PRES's result is a function of UP, B5, AC1, AC2, AC3, AC4, B1 and B2 alone; it changes none of its
inputs; and issuing it twice in a row leaves what issuing it once leaves. -/
def Obligations.PresIsPure : Prop :=
  (∀ s1 s2 s1' s2' : State,
    s1.up = s2.up → s1.b5 = s2.b5 → s1.cal.ac1 = s2.cal.ac1 → s1.cal.ac2 = s2.cal.ac2 →
    s1.cal.ac3 = s2.cal.ac3 → s1.cal.ac4 = s2.cal.ac4 → s1.cal.b1 = s2.cal.b1 →
    s1.cal.b2 = s2.cal.b2 →
    exec .pres s1 = .next s1' → exec .pres s2 = .next s2' →
    s1'.status.pv = s2'.status.pv ∧ s1'.status.perr = s2'.status.perr ∧
    (s1'.status.pv = true → s1'.p = s2'.p ∧ s1'.status.b7hi = s2'.status.b7hi)) ∧
  (∀ s s' : State, exec .pres s = .next s' →
    s'.up = s.up ∧ s'.b5 = s.b5 ∧ s'.cal = s.cal ∧ exec .pres s' = .next s')

/-- U1, R307: when OVF and UNF are clear after a successful PRES (so they were clear before it), P is the
vendor's formula computed exactly in ℤ, and B7HI says which of the two formulas gave the quotient. The
formula's constants are those the spec marks as general knowledge (GK1; log entry 3). -/
def Obligations.PresAgreesWithTheVendorFormula : Prop :=
  ∀ s s' : State, exec .pres s = .next s' → s'.status.pv = true → s'.status.ovf = false →
    s'.status.unf = false →
    Exact.b4 s.cal (sext32 s.b5) ≠ 0 ∧
    sext32 s'.p = Exact.pressure s.cal (sext32 s.b5) (sext32 s.up) ∧
    (s'.status.b7hi = true ↔ 2147483648 ≤ Exact.b7 s.cal (sext32 s.b5) (sext32 s.up))

/-! ## The arithmetic -/

/-- R121, R122: a stage result is the number of its type congruent to the exact result modulo 2^32, the
exact result itself when that is in range; recording it sets OVF when the exact result is above the range,
UNF when it is below, and clears neither. -/
def Obligations.StageResultsWrapAndReport : Prop :=
  ∀ r : Int,
    (-2147483648 ≤ (s32 r).val ∧ (s32 r).val ≤ 2147483647 ∧ (4294967296 ∣ (s32 r).val - r)) ∧
    ((s32 r).above = true ↔ 2147483647 < r) ∧ ((s32 r).below = true ↔ r < -2147483648) ∧
    (-2147483648 ≤ r ∧ r ≤ 2147483647 → (s32 r).val = r) ∧
    (0 ≤ (u32 r).val ∧ (u32 r).val ≤ 4294967295 ∧ (4294967296 ∣ (u32 r).val - r)) ∧
    ((u32 r).above = true ↔ 4294967295 < r) ∧ ((u32 r).below = true ↔ r < 0) ∧
    (0 ≤ r ∧ r ≤ 4294967295 → (u32 r).val = r) ∧
    (∀ f : Status, f.recordRange [s32 r] = { f with
      ovf := f.ovf || decide (2147483647 < r), unf := f.unf || decide (r < -2147483648) }) ∧
    (∀ f : Status, f.recordRange [u32 r] = { f with
      ovf := f.ovf || decide (4294967295 < r), unf := f.unf || decide (r < 0) })

/-- R125, R126: a shift right by n is the greatest integer whose product with 2^n is not above the value, and
it is in range of the type that the value is in range of, so no flag can change. -/
def Obligations.ShiftsRoundDown : Prop :=
  ∀ (v : Int) (n : Nat),
    asr v n * 2 ^ n ≤ v ∧ v < (asr v n + 1) * 2 ^ n ∧ lsr v n * 2 ^ n ≤ v ∧ v < (lsr v n + 1) * 2 ^ n ∧
    (-2147483648 ≤ v ∧ v ≤ 2147483647 → -2147483648 ≤ asr v n ∧ asr v n ≤ 2147483647) ∧
    (0 ≤ v ∧ v ≤ 4294967295 → 0 ≤ lsr v n ∧ lsr v n ≤ 4294967295)

/-- R127, R128: the signed divider gives the greatest integer not above the exact quotient, at every sign of
the divisor; so does the unsigned one, whose quotient lies in [0, a]. -/
def Obligations.DividersRoundDown : Prop :=
  (∀ a b : Int, 0 < b → fdiv a b * b ≤ a ∧ a < (fdiv a b + 1) * b) ∧
  (∀ a b : Int, b < 0 → a ≤ fdiv a b * b ∧ (fdiv a b + 1) * b < a) ∧
  (∀ a b : Int, 0 ≤ a → 0 < b →
    udiv a b * b ≤ a ∧ a < (udiv a b + 1) * b ∧ 0 ≤ udiv a b ∧ udiv a b ≤ a)

/-! ## The machine as a whole -/

/-- R160: when the next event at the port is a request whose word decodes, a step is `exec` of that
instruction on the state with the request taken from the port; there is no program counter to advance. -/
def Obligations.StepRunsTheDecodedInstruction : Prop :=
  ∀ (s : State) (w : Request) (rest : List PortEvent) (i : Instr),
    s.port = .request w :: rest → decode w = .ok i → step s = exec i { s with port := rest }

/-- R160, R167, R285: a step on a reserved word is the reserved-request action, and with no event at the port
the block is idle and holds its registers. -/
def Obligations.StepOnReservedWordOrIdle : Prop :=
  (∀ (s : State) (w : Request) (rest : List PortEvent) (r : Reserved),
    s.port = .request w :: rest → decode w = .error r →
    step s = .next { s with
      port := rest
      status := { s.status with ill := true }
      responses := if w.toNat / 2 ^ 39 = 0 then s.responses ++ [0#32] else s.responses }) ∧
  (∀ s : State, s.port = [] → step s = .next s)

/-- R160, R308: every instruction completes in every state, and every step answers a next state. -/
def Obligations.EveryStepCompletes : Prop :=
  (∀ (i : Instr) (s : State), ∃ s', exec i s = .next s') ∧ (∀ s : State, ∃ s', step s = .next s')

/-- R300: the state after reset holds 0 in every register and flag and waits for the first request, and a
TEMP or PRES before the coefficients are loaded ends in CalibrationError with every result still 0. -/
def Obligations.ResetZeroesEveryRegister : Prop :=
  (∀ r : Reg, readReg r State.reset = 0#32) ∧ step State.reset = .next State.reset ∧
  exec .temp State.reset = .next { State.reset with status := { Status.zero with terr := true } } ∧
  exec .pres State.reset = .next { State.reset with status := { Status.zero with perr := true } }

/-- R301, R300: asserting `rst` in any state, with or without a request in progress, answers nothing and
leads to 0 in every register and flag. That what the host still offers and what it has been answered stay
is the model's choice (log entries 4 and 5). -/
def Obligations.ResetEventZeroesEveryRegister : Prop :=
  ∀ (s : State) (q : Option Request) (rest : List PortEvent), s.port = .reset q :: rest →
    ∃ s', step s = .next s' ∧ (∀ r : Reg, readReg r s' = 0#32) ∧ s'.port = rest ∧
      s'.responses = s.responses

/-- R60, R70: running a list of requests performs them one at a time in the order accepted, each completely,
whatever the host offers after them. -/
def Obligations.RequestsArePerformedInOrder : Prop :=
  ∀ (ws : List Request) (s : State) (rest : List PortEvent),
    Host.Core.run Sys2Proof.core ws.length (s.withPort (ws.map PortEvent.request ++ rest))
      = performAll ws (s.withPort rest)

/-- R61: a RD word produces exactly one response, and a WR word none. -/
def Obligations.OneResponsePerRead : Prop :=
  ∀ (w : Request) (s s' : State), performRequest w s = .next s' →
    s'.responses = s.responses ++ (if w.toNat / 2 ^ 39 = 0 then [(memRead (Request.idx w) s).1] else [])

/-- R31: no flag changes what an instruction computes: two states that differ in STATUS only come out with
the same registers, and with the same response but for RD STATUS. -/
def Obligations.FlagsNeverFeedBack : Prop :=
  ∀ (i : Instr) (s s' : State) (f : Status), exec i s = .next s' →
    ∃ t', exec i (s.withStatus f) = .next t' ∧
      t'.cal = s'.cal ∧ t'.ut = s'.ut ∧ t'.up = s'.up ∧ t'.b5 = s'.b5 ∧ t'.t = s'.t ∧ t'.p = s'.p ∧
      (i ≠ .rdStatus → t'.responses = s'.responses)

/-- R28: OVF, UNF and ILL are sticky: a step that clears one is CLR or reset. -/
def Obligations.StickyFlagsAreClearedByClrOrReset : Prop :=
  ∀ s s' : State, step s = .next s' →
    (s.status.ovf = true ∧ s'.status.ovf = false) ∨ (s.status.unf = true ∧ s'.status.unf = false) ∨
      (s.status.ill = true ∧ s'.status.ill = false) →
    (∃ w rest, s.port = .request w :: rest ∧ decode w = .ok .clr) ∨ (∃ q rest, s.port = .reset q :: rest)

/-- R28: what sets and clears TV, PV and B7HI, over every step. -/
def Obligations.ValidFlagsChangeOnlyAsListed : Prop :=
  ∀ s s' : State, step s = .next s' →
    (s.status.tv = false → s'.status.tv = true →
      ∃ w rest, s.port = .request w :: rest ∧ decode w = .ok .temp ∧ s'.status.terr = false) ∧
    (s.status.tv = true → s'.status.tv = false →
      (∃ w rest, s.port = .request w :: rest ∧
        ((decode w = .ok .temp ∧ s'.status.terr = true) ∨ ∃ v, decode w = .ok (.wrB5 v))) ∨
      (∃ q rest, s.port = .reset q :: rest)) ∧
    (s.status.pv = false → s'.status.pv = true →
      ∃ w rest, s.port = .request w :: rest ∧ decode w = .ok .pres ∧ s'.status.perr = false) ∧
    (s.status.pv = true → s'.status.pv = false →
      (∃ w rest, s.port = .request w :: rest ∧ decode w = .ok .pres ∧ s'.status.perr = true) ∨
      (∃ q rest, s.port = .reset q :: rest)) ∧
    (s.status.b7hi ≠ s'.status.b7hi →
      (∃ w rest, s.port = .request w :: rest ∧ decode w = .ok .pres ∧ s'.status.perr = false) ∨
      (∃ q rest, s.port = .reset q :: rest))

/-- R28, R275: an error flag is set only by its own command failing and cleared only by that command
succeeding, by CLR or by reset. -/
def Obligations.ErrorFlagsChangeOnlyAsListed : Prop :=
  ∀ s s' : State, step s = .next s' →
    (s.status.terr = false → s'.status.terr = true →
      ∃ w rest, s.port = .request w :: rest ∧ decode w = .ok .temp ∧ Wrapped.divisor s.cal s.ut = 0) ∧
    (s.status.terr = true → s'.status.terr = false →
      (∃ w rest, s.port = .request w :: rest ∧
        ((decode w = .ok .temp ∧ s'.status.tv = true) ∨ decode w = .ok .clr)) ∨
      (∃ q rest, s.port = .reset q :: rest)) ∧
    (s.status.perr = false → s'.status.perr = true →
      ∃ w rest, s.port = .request w :: rest ∧ decode w = .ok .pres ∧ Wrapped.b4 s.cal s.b5 = 0) ∧
    (s.status.perr = true → s'.status.perr = false →
      (∃ w rest, s.port = .request w :: rest ∧
        ((decode w = .ok .pres ∧ s'.status.pv = true) ∨ decode w = .ok .clr)) ∨
      (∃ q rest, s.port = .reset q :: rest))

/-- R21, R23, R25: which steps can change a register: a coefficient, UT or UP only a WR of an index at most
12 or reset; B5 only WR B5, TEMP or reset; T only TEMP or reset; P only PRES or reset. -/
def Obligations.RegistersChangeOnlyByTheirWriters : Prop :=
  ∀ s s' : State, step s = .next s' →
    (s'.cal ≠ s.cal → (∃ w rest, s.port = .request w :: rest ∧ w.toNat / 2 ^ 39 = 1 ∧
        w.toNat / 2 ^ 32 % 128 ≤ 10) ∨ (∃ q rest, s.port = .reset q :: rest)) ∧
    (s'.ut ≠ s.ut → (∃ w rest v, s.port = .request w :: rest ∧ decode w = .ok (.wrUt v)) ∨
        (∃ q rest, s.port = .reset q :: rest)) ∧
    (s'.up ≠ s.up → (∃ w rest v, s.port = .request w :: rest ∧ decode w = .ok (.wrUp v)) ∨
        (∃ q rest, s.port = .reset q :: rest)) ∧
    (s'.b5 ≠ s.b5 → (∃ w rest, s.port = .request w :: rest ∧
        (decode w = .ok .temp ∨ ∃ v, decode w = .ok (.wrB5 v))) ∨ (∃ q rest, s.port = .reset q :: rest)) ∧
    (s'.t ≠ s.t → (∃ w rest, s.port = .request w :: rest ∧ decode w = .ok .temp) ∨
        (∃ q rest, s.port = .reset q :: rest)) ∧
    (s'.p ≠ s.p → (∃ w rest, s.port = .request w :: rest ∧ decode w = .ok .pres) ∨
        (∃ q rest, s.port = .reset q :: rest))

/-- R28, R199, R200, R274: every step keeps the register file's invariant: an error flag and the valid flag of
the same command are never set together, and while TV is set T and B5 are a pair. -/
def Obligations.EveryStepKeepsTheInvariant : Prop :=
  ∀ s s' : State, s.Inv → step s = .next s' → s'.Inv

/-- R300: the invariant holds after reset. -/
def Obligations.ResetHasTheInvariant : Prop :=
  State.reset.Inv

/-! ## The host's order, several instances, the signals and the assembler -/

/-- R302, R304, R278: a host that keeps the order of R302 (as `HostTrack` reads it, log entry 9) issues PRES
only with B5 holding what TEMP computes from the UT and the coefficients now in the registers. -/
def Obligations.OrderedHostConvertsOneSample : Prop :=
  ∀ (is : List Instr) (s0 s : State) (h : HostTrack),
    hostRun is HostTrack.start s0 = some (h, s) → h.allows s .pres = true →
    Wrapped.divisor s.cal s.ut ≠ 0 ∧ s.b5 = BitVec.ofInt 32 (Wrapped.b5 s.cal s.ut)

/-- R76, R283: a step of one instance completes, is that instance's own step, and leaves every other instance
as it was. -/
def Obligations.InstancesDoNotInteract : Prop :=
  ∀ (xs : Instances) (k : Fin xs.length),
    ∃ (s' : State) (ys : Instances), step (xs.get k) = .next s' ∧ stepInstance xs k = .next ys ∧
      ys.length = xs.length ∧ ys[k.val]? = some s' ∧ ∀ j : Nat, j ≠ k.val → ys[j]? = xs[j]?

/-- R62, R305, R308: with `rst` low, a request offered to an idle block is accepted in that cycle, the block
is not ready until the request is complete, which it is after exactly its latency, whatever the host
drives meanwhile; the transaction is `performRequest`; and the response of a RD, and of no other request,
comes in the last cycle and in no other. The convention of the last cycle is log entry 6. -/
def Obligations.RequestCompletesAfterItsLatency : Prop :=
  ∀ (lat : Latencies) (s : State) (first : PortIn) (later : List PortIn),
    lat.Positive → first.rst = false → first.reqValid = true →
    (∀ i ∈ later, i.rst = false) → later.length = requestLatency lat first.req →
    ∃ s', performRequest first.req s = .next s' ∧
      runCycles lat (first :: later) { block := s, inFlight := none } = .next
        ({ reqReady := true, rsp := none } ::
            (List.replicate (later.length - 1) { reqReady := false, rsp := none } ++
              [{ reqReady := false
                 rsp := if first.req.toNat / 2 ^ 39 = 0 then
                     some (memRead (Request.idx first.req) s).1 else none }]),
          { block := s', inFlight := none })

/-- R301: in a cycle with `rst` high the block is not ready and answers nothing, a request in flight is
abandoned, and every register is at its reset value. -/
def Obligations.ResetAbandonsTheRequestInFlight : Prop :=
  ∀ (lat : Latencies) (i : PortIn) (c : Clocked), i.rst = true →
    ∃ c', cycle lat i c = .next ({ reqReady := false, rsp := none }, c') ∧ c'.inFlight = none ∧
      c'.block.cal = Coefficients.zero ∧ c'.block.status = Status.zero ∧
      c'.block.responses = c.block.responses ∧ ∀ r : Reg, readReg r c'.block = 0#32

/-- R100: a well-formed line assembles to the word with its register in IDX and its value modulo 2^32 in
DATA; `WR CMD, code` is the command of that code. -/
def Obligations.AssembledLinesHaveTheirFields : Prop :=
  (∀ reg : Nat, (AsmLine.rd reg).wf = true → (AsmLine.encode (.rd reg)).toNat = reg * 2 ^ 32) ∧
  (∀ (reg : Nat) (v : Int), (AsmLine.wr reg v).wf = true →
    ((AsmLine.encode (.wr reg v)).toNat : Int) = 2 ^ 39 + reg * 2 ^ 32 + v % 2 ^ 32) ∧
  (∀ (v : Int), (AsmLine.wr 16 v).wf = true →
    (v % 256 = 0 → decode (AsmLine.encode (.wr 16 v)) = .ok .nop) ∧
    (v % 256 = 1 → decode (AsmLine.encode (.wr 16 v)) = .ok .temp) ∧
    (v % 256 = 2 → decode (AsmLine.encode (.wr 16 v)) = .ok .pres) ∧
    (v % 256 = 3 → decode (AsmLine.encode (.wr 16 v)) = .ok .clr))

/-- R101, R302: LDCAL leaves all eleven coefficients loaded and nothing else changed; CONV is WR UT, TEMP,
WR UP, PRES; RDALL answers STATUS, T, B5 and P in that order and changes nothing else. -/
def Obligations.PseudoInstructionsDoWhatTheyExpandTo : Prop :=
  (∀ (v : CalValues) (s : State),
    performAll ((AsmItem.ldcal v).expand.map AsmLine.encode) s = .next { s with cal := {
      ac1 := BitVec.ofInt 16 v.a1, ac2 := BitVec.ofInt 16 v.a2, ac3 := BitVec.ofInt 16 v.a3,
      ac4 := BitVec.ofInt 16 v.a4, ac5 := BitVec.ofInt 16 v.a5, ac6 := BitVec.ofInt 16 v.a6,
      b1 := BitVec.ofInt 16 v.b1, b2 := BitVec.ofInt 16 v.b2, mb := BitVec.ofInt 16 v.mb,
      mc := BitVec.ofInt 16 v.mc, md := BitVec.ofInt 16 v.md } }) ∧
  (∀ (ut up : Int) (s s1 s2 : State),
    exec .temp { s with ut := BitVec.ofInt 16 ut } = .next s1 →
    exec .pres { s1 with up := BitVec.ofInt 32 up } = .next s2 →
    performAll ((AsmItem.convt ut).expand.map AsmLine.encode) s = .next s1 ∧
    performAll ((AsmItem.convp up).expand.map AsmLine.encode) s1 = .next s2 ∧
    performAll ((AsmItem.conv ut up).expand.map AsmLine.encode) s = .next s2) ∧
  (∀ s : State, performAll (AsmItem.rdall.expand.map AsmLine.encode) s =
    .next { s with responses := s.responses ++ [readReg .status s, s.t, s.b5, s.p] })
end

