-- ==== Sys2Proof/Laws/Arith.lean ====
section
/-! SUPPORT. What the arithmetic operations can give: ranges of typed values, wrapping, the two kinds of
stage result, and the shifts as integer division. -/

namespace Sys2Proof.Machine

/-! ## Typed values -/

theorem sext16_range (v : Half) : -32768 ≤ sext16 v ∧ sext16 v ≤ 32767 := by
  have h1 := BitVec.le_toInt v
  have h2 := BitVec.toInt_lt (x := v)
  unfold sext16
  constructor <;> omega

theorem zext16_range (v : Half) : 0 ≤ zext16 v ∧ zext16 v ≤ 65535 := by
  have h := v.isLt
  unfold zext16
  constructor <;> omega

theorem sext32_range (v : Word) : -2147483648 ≤ sext32 v ∧ sext32 v ≤ 2147483647 := by
  have h1 := BitVec.le_toInt v
  have h2 := BitVec.toInt_lt (x := v)
  unfold sext32
  constructor <;> omega

/-- Storing an integer in a 32-bit register and reading it back wraps it. -/
theorem sext32_pattern32 (r : Int) : sext32 (pattern32 r) = wrapS32 r := by
  simp [sext32, pattern32, wrapS32, BitVec.toInt_ofInt]

/-! ## Wrapping -/

theorem wrapS32_range (r : Int) : -2147483648 ≤ wrapS32 r ∧ wrapS32 r ≤ 2147483647 := by
  have h1 := Int.le_bmod (x := r) (m := 2 ^ 32) (by decide)
  have h2 := Int.bmod_lt (x := r) (m := 2 ^ 32) (by decide)
  unfold wrapS32
  constructor <;> omega

theorem wrapS32_of_range {r : Int} (h : -2147483648 ≤ r ∧ r ≤ 2147483647) : wrapS32 r = r := by
  unfold wrapS32
  rw [Int.bmod_def]
  split <;> omega

theorem wrapS32_emod (r : Int) : wrapS32 r % 4294967296 = r % 4294967296 := by
  have := Int.bmod_emod (x := r) (m := 2 ^ 32)
  simpa [wrapS32] using this

theorem wrapU32_range (r : Int) : 0 ≤ wrapU32 r ∧ wrapU32 r ≤ 4294967295 := by
  have h : wrapU32 r = r % 4294967296 := rfl
  rw [h]
  constructor <;> omega

theorem wrapU32_of_range {r : Int} (h : 0 ≤ r ∧ r ≤ 4294967295) : wrapU32 r = r := by
  have e : wrapU32 r = r % 4294967296 := rfl
  rw [e]
  omega

/-! ## Stage results -/

theorem s32_val (r : Int) : (s32 r).val = wrapS32 r := rfl
theorem u32_val (r : Int) : (u32 r).val = wrapU32 r := rfl

theorem s32_range (r : Int) : -2147483648 ≤ (s32 r).val ∧ (s32 r).val ≤ 2147483647 :=
  wrapS32_range r

theorem u32_range (r : Int) : 0 ≤ (u32 r).val ∧ (u32 r).val ≤ 4294967295 :=
  wrapU32_range r

theorem s32_val_of_range {r : Int} (h : -2147483648 ≤ r ∧ r ≤ 2147483647) : (s32 r).val = r :=
  wrapS32_of_range h

theorem u32_val_of_range {r : Int} (h : 0 ≤ r ∧ r ≤ 4294967295) : (u32 r).val = r :=
  wrapU32_of_range h

theorem s32_above_iff (r : Int) : (s32 r).above = true ↔ 2147483647 < r := by
  simp [s32]

theorem s32_below_iff (r : Int) : (s32 r).below = true ↔ r < -2147483648 := by
  simp [s32]

theorem u32_above_iff (r : Int) : (u32 r).above = true ↔ 4294967295 < r := by
  simp [u32]

theorem u32_below_iff (r : Int) : (u32 r).below = true ↔ r < 0 := by
  simp [u32]

/-- A result in range sets no flag. -/
theorem s32_flags_of_range {r : Int} (h : -2147483648 ≤ r ∧ r ≤ 2147483647) :
    (s32 r).above = false ∧ (s32 r).below = false := by
  constructor
  · simp [s32]; omega
  · simp [s32]; omega

theorem u32_flags_of_range {r : Int} (h : 0 ≤ r ∧ r ≤ 4294967295) :
    (u32 r).above = false ∧ (u32 r).below = false := by
  constructor
  · simp [u32]; omega
  · simp [u32]; omega

/-- A result that sets no flag is the exact one. -/
theorem s32_val_of_flags {r : Int} (ha : (s32 r).above = false) (hb : (s32 r).below = false) :
    (s32 r).val = r := by
  apply s32_val_of_range
  simp [s32] at ha hb
  omega

theorem u32_val_of_flags {r : Int} (ha : (u32 r).above = false) (hb : (u32 r).below = false) :
    (u32 r).val = r := by
  apply u32_val_of_range
  simp [u32] at ha hb
  omega

/-! ## Shifts and division by a positive constant -/

theorem asr_eq (v : Int) (n : Nat) : asr v n = v / 2 ^ n := by
  unfold asr
  exact Int.fdiv_eq_ediv_of_nonneg v (by positivity)

theorem lsr_eq (v : Int) (n : Nat) : lsr v n = v / 2 ^ n := by
  unfold lsr
  exact Int.fdiv_eq_ediv_of_nonneg v (by positivity)

theorem udiv_eq {a b : Int} (hb : 0 ≤ b) : udiv a b = a / b :=
  Int.fdiv_eq_ediv_of_nonneg a hb

/-- A floor quotient is no larger in magnitude than the dividend. -/
theorem fdiv_abs_le {a b m : Int} (ha : -m ≤ a ∧ a ≤ m) (hb : b ≠ 0) :
    -m ≤ fdiv a b ∧ fdiv a b ≤ m := by
  unfold fdiv
  rcases lt_or_gt_of_ne hb with h | h
  · have hneg : Int.fdiv a b = (-a) / (-b) := by
      have e := Int.neg_fdiv_neg (a := a) (b := b)
      rw [← e]
      exact Int.fdiv_eq_ediv_of_nonneg (-a) (by omega)
    rw [hneg]
    have hb' : 0 < -b := by omega
    constructor
    · rw [Int.le_ediv_iff_mul_le hb']
      nlinarith
    · rw [← Int.lt_add_one_iff, Int.ediv_lt_iff_lt_mul hb']
      nlinarith
  · have hpos : Int.fdiv a b = a / b := Int.fdiv_eq_ediv_of_nonneg a (by omega)
    rw [hpos]
    constructor
    · rw [Int.le_ediv_iff_mul_le h]
      nlinarith
    · rw [← Int.lt_add_one_iff, Int.ediv_lt_iff_lt_mul h]
      nlinarith

end Sys2Proof.Machine
end

