-- ==== Sys2Proof/Laws/Decode.lean ====
section
/-! SUPPORT. The fields of a request word, the register map, and what the decoder can answer. -/

namespace Sys2Proof

/-! ## The fields of a word built from its fields (R90) -/

/-- A request word as a number. -/
theorem Request.toNat_mk (b : Bool) (i : RegIndex) (d : Word) :
    (Request.mk b i d).toNat = b.toNat * 2 ^ 39 + i.toNat * 2 ^ 32 + d.toNat := by
  have hi := i.isLt
  have hd := d.isLt
  have e1 : (BitVec.ofBool b ++ i).toNat = b.toNat * 2 ^ 7 + i.toNat := by
    rw [BitVec.toNat_append, ← Nat.shiftLeft_add_eq_or_of_lt hi, Nat.shiftLeft_eq]
    cases b <;> rfl
  have e2 : (Request.mk b i d).toNat = (BitVec.ofBool b ++ i).toNat <<< 32 ||| d.toNat :=
    BitVec.toNat_append ..
  rw [e2, ← Nat.shiftLeft_add_eq_or_of_lt hd, Nat.shiftLeft_eq, e1]
  ring

theorem Request.isWrite_eq (w : Request) : Request.isWrite w = decide (w.toNat / 2 ^ 39 % 2 = 1) :=
  Nat.testBit_eq_decide_div_mod_eq

theorem Request.idx_toNat (w : Request) : (Request.idx w).toNat = w.toNat / 2 ^ 32 % 2 ^ 7 := by
  rw [Request.idx, BitVec.extractLsb'_toNat, Nat.shiftRight_eq_div_pow]

theorem Request.data_toNat (w : Request) : (Request.data w).toNat = w.toNat % 2 ^ 32 := by
  rw [Request.data, BitVec.extractLsb'_toNat, Nat.shiftRight_eq_div_pow]; simp

theorem Request.isWrite_mk (b : Bool) (i : RegIndex) (d : Word) :
    Request.isWrite (Request.mk b i d) = b := by
  have hi := i.isLt
  have hd := d.isLt
  rw [Request.isWrite_eq, Request.toNat_mk]
  cases b <;> simp <;> omega

theorem Request.idx_mk (b : Bool) (i : RegIndex) (d : Word) :
    Request.idx (Request.mk b i d) = i := by
  have hi := i.isLt
  have hd := d.isLt
  apply BitVec.eq_of_toNat_eq
  rw [Request.idx_toNat, Request.toNat_mk]
  cases b <;> simp <;> omega

theorem Request.data_mk (b : Bool) (i : RegIndex) (d : Word) :
    Request.data (Request.mk b i d) = d := by
  have hi := i.isLt
  have hd := d.isLt
  apply BitVec.eq_of_toNat_eq
  rw [Request.data_toNat, Request.toNat_mk]
  cases b <;> simp <;> omega

/-- A request word is its three fields. -/
theorem Request.mk_fields (w : Request) :
    Request.mk (Request.isWrite w) (Request.idx w) (Request.data w) = w := by
  have hw := w.isLt
  apply BitVec.eq_of_toNat_eq
  rw [Request.toNat_mk, Request.idx_toNat, Request.data_toNat, Request.isWrite_eq]
  by_cases h : w.toNat / 2 ^ 39 % 2 = 1
  · rw [decide_eq_true h, Bool.toNat_true]; omega
  · rw [decide_eq_false h, Bool.toNat_false]; omega

/-- Two words are equal only with equal fields. -/
theorem Request.mk_injective {b b' : Bool} {i i' : RegIndex} {d d' : Word}
    (h : Request.mk b i d = Request.mk b' i' d') : b = b' ∧ i = i' ∧ d = d' := by
  have h1 := congrArg Request.isWrite h
  have h2 := congrArg Request.idx h
  have h3 := congrArg Request.data h
  simp only [Request.isWrite_mk, Request.idx_mk, Request.data_mk] at h1 h2 h3
  exact ⟨h1, h2, h3⟩

theorem Request.isWrite_eq_false_iff (w : Request) :
    Request.isWrite w = false ↔ w.toNat / 2 ^ 39 = 0 := by
  have hw := w.isLt
  rw [Request.isWrite_eq, decide_eq_false_iff_not]
  omega

theorem Request.isWrite_eq_true_iff (w : Request) :
    Request.isWrite w = true ↔ w.toNat / 2 ^ 39 = 1 := by
  have hw := w.isLt
  rw [Request.isWrite_eq, decide_eq_true_iff]
  omega

/-! ## The two masks of R96 -/

/-- Under a mask of the first byte DATA is dropped and nothing else. -/
theorem Request.mk_and_firstByte (b : Bool) (i : RegIndex) (d : Word) :
    Request.mk b i d &&& 0xFF00000000#40 = Request.mk b i 0#32 := by
  have hi := i.isLt
  have hd := d.isLt
  have hb : b.toNat < 2 := b.toNat_lt
  apply BitVec.eq_of_toNat_eq
  have e : (0xFF00000000#40).toNat = (2 ^ 8 - 1) * 2 ^ 32 := by decide
  have key : (Request.mk b i d).toNat = (b.toNat * 2 ^ 7 + i.toNat) * 2 ^ 32 + d.toNat := by
    rw [Request.toNat_mk]; ring
  rw [BitVec.toNat_and, e, Request.toNat_mk b i 0#32, key]
  apply Nat.eq_of_testBit_eq
  intro k
  rw [Nat.testBit_and, show b.toNat * 2 ^ 39 + i.toNat * 2 ^ 32 + (0#32).toNat
    = (b.toNat * 2 ^ 7 + i.toNat) * 2 ^ 32 + 0 by simp; ring]
  rw [Nat.mul_comm (b.toNat * 2 ^ 7 + i.toNat), Nat.testBit_two_pow_mul_add _ hd,
    Nat.testBit_two_pow_mul_add _ (by decide), Nat.testBit_mul_two_pow]
  by_cases hk : k < 32
  · simp [hk]
  · have hlt : b.toNat * 2 ^ 7 + i.toNat < 2 ^ 8 := by omega
    have := Nat.testBit_two_pow_sub_one 8 (k - 32)
    simp only [hk, if_false, this]
    by_cases h8 : k - 32 < 8
    · simp [h8]; omega
    · rw [Nat.testBit_lt_two_pow (lt_of_lt_of_le hlt (Nat.pow_le_pow_right (by decide) (by omega)))]
      simp

/-- Under the mask of a command row DATA[31:8] is dropped and nothing else. -/
theorem Request.mk_and_commandMask (b : Bool) (i : RegIndex) (d : Word) :
    Request.mk b i d &&& 0xFF000000FF#40 = Request.mk b i (BitVec.ofNat 32 (d.toNat % 256)) := by
  have hd := d.isLt
  have hsplit : Request.mk b i d &&& 0xFF000000FF#40
      = (Request.mk b i d &&& 0xFF00000000#40) ||| (Request.mk b i d &&& 0xFF#40) := by
    rw [← BitVec.and_or_distrib_left]; rfl
  have hlow : Request.mk b i d &&& 0xFF#40
      = Request.mk false 0#7 (BitVec.ofNat 32 (d.toNat % 256)) := by
    apply BitVec.eq_of_toNat_eq
    rw [BitVec.toNat_and, show (0xFF#40).toNat = 2 ^ 8 - 1 from rfl,
      Nat.and_two_pow_sub_one_eq_mod, Request.toNat_mk, Request.toNat_mk]
    simp; omega
  have hcode : (BitVec.ofNat 32 (d.toNat % 256)).toNat = d.toNat % 256 := by simp; omega
  have hzero : false.toNat * 2 ^ 39 + (0#7).toNat * 2 ^ 32
      + (BitVec.ofNat 32 (d.toNat % 256)).toNat = d.toNat % 256 := by simp; omega
  have hhead : b.toNat * 2 ^ 39 + i.toNat * 2 ^ 32 + (0#32).toNat
      = (b.toNat * 2 ^ 7 + i.toNat) <<< 32 := by rw [Nat.shiftLeft_eq]; simp; ring
  rw [hsplit, Request.mk_and_firstByte, hlow]
  apply BitVec.eq_of_toNat_eq
  rw [BitVec.toNat_or, Request.toNat_mk, Request.toNat_mk, Request.toNat_mk, hhead, hzero, hcode,
    ← Nat.shiftLeft_add_eq_or_of_lt (by omega), ← hhead]
  simp

/-! ## The register map (R20) -/


theorem Reg.ofIndex_index (r : Reg) : Reg.ofIndex (Reg.index r) = some r := by
  cases r <;> rfl

/-- Two registers with one index are one register. -/
theorem Reg.index_injective {r q : Reg} (h : Reg.index r = Reg.index q) : r = q := by
  have := congrArg Reg.ofIndex h
  simpa [Reg.ofIndex_index] using this

theorem Reg.index_of_ofIndex {i : RegIndex} {r : Reg} (h : Reg.ofIndex i = some r) :
    Reg.index r = i := by
  revert h
  revert r
  revert i
  decide

/-! ## The shapes the decoder distinguishes (R91) -/

theorem decode_read {w : Request} {r : Reg} (hw : Request.isWrite w = false)
    (hr : Reg.ofIndex (Request.idx w) = some r) : decode w = .ok (decodeRead r) := by
  simp [decode, hw, hr]

theorem decode_write {w : Request} {r : Reg} (hw : Request.isWrite w = true)
    (hr : Reg.ofIndex (Request.idx w) = some r) : decode w = decodeWrite r (Request.data w) := by
  simp [decode, hw, hr]

theorem decode_reserved_read {w : Request} (hw : Request.isWrite w = false)
    (hr : Reg.ofIndex (Request.idx w) = none) : decode w = .error (.readIndex (Request.idx w)) := by
  simp [decode, hw, hr]

theorem decode_reserved_write {w : Request} (hw : Request.isWrite w = true)
    (hr : Reg.ofIndex (Request.idx w) = none) : decode w = .error (.writeIndex (Request.idx w)) := by
  simp [decode, hw, hr]

/-- Everything the CMD-shape can be (R164). -/
theorem decodeCommand_cases (c : Code) :
    (c.toNat = 0 ∧ decodeCommand c = .ok .nop) ∨ (c.toNat = 1 ∧ decodeCommand c = .ok .temp) ∨
    (c.toNat = 2 ∧ decodeCommand c = .ok .pres) ∨ (c.toNat = 3 ∧ decodeCommand c = .ok .clr) ∨
    (4 ≤ c.toNat ∧ decodeCommand c = .error (.commandCode c)) := by
  unfold decodeCommand
  split
  · exact .inl ⟨by assumption, rfl⟩
  · exact .inr (.inl ⟨by assumption, rfl⟩)
  · exact .inr (.inr (.inl ⟨by assumption, rfl⟩))
  · exact .inr (.inr (.inr (.inl ⟨by assumption, rfl⟩)))
  · rename_i h0 h1 h2 h3
    refine .inr (.inr (.inr (.inr ⟨?_, rfl⟩)))
    by_contra h
    have hc : c.toNat = 0 ∨ c.toNat = 1 ∨ c.toNat = 2 ∨ c.toNat = 3 := by omega
    rcases hc with h | h | h | h
    · exact h0 h
    · exact h1 h
    · exact h2 h
    · exact h3 h

/-- A reserved word is answered exactly when W = 0 (R97). -/
theorem decode_error_isRead {w : Request} {r : Reserved} (h : decode w = .error r) :
    r.isRead = !Request.isWrite w := by
  rcases hw : Request.isWrite w with _ | _ <;> rcases hr : Reg.ofIndex (Request.idx w) with _ | q
  · rw [decode_reserved_read hw hr] at h; cases h; rfl
  · rw [decode_read hw hr] at h; cases h
  · rw [decode_reserved_write hw hr] at h; cases h; rfl
  · rw [decode_write hw hr] at h
    cases q
    case t => cases h; rfl
    case p => cases h; rfl
    case status => cases h; rfl
    case cmd =>
      rcases decodeCommand_cases (Request.data w).code with ⟨_, e⟩ | ⟨_, e⟩ | ⟨_, e⟩ | ⟨_, e⟩ | ⟨_, e⟩
      all_goals
        simp only [decodeWrite] at h
        rw [e] at h; cases h
      rfl
    all_goals cases h

/-- What decodes a word is its three fields. -/
theorem decode_mk_read (r : Reg) (d : Word) :
    decode (Request.mk false (Reg.index r) d) = .ok (decodeRead r) :=
  decode_read (Request.isWrite_mk ..) (by rw [Request.idx_mk, Reg.ofIndex_index])

theorem decode_mk_write (r : Reg) (d : Word) :
    decode (Request.mk true (Reg.index r) d) = decodeWrite r d := by
  rw [decode_write (Request.isWrite_mk ..) (by rw [Request.idx_mk, Reg.ofIndex_index]),
    Request.data_mk]

end Sys2Proof
end

