-- ==== Sys2Proof/Laws/State.lean ====
section
/-! SUPPORT. One lemma per field per update of the state and of STATUS, each true by rfl, so that no proof
unfolds a record update. -/

namespace Sys2Proof.Machine

@[simp] theorem State.setAc1_cal (s : State) (v : Half) : (s.setAc1 v).cal = { s.cal with ac1 := v } := rfl
@[simp] theorem State.setAc1_ut (s : State) (v : Half) : (s.setAc1 v).ut = s.ut := rfl
@[simp] theorem State.setAc1_up (s : State) (v : Half) : (s.setAc1 v).up = s.up := rfl
@[simp] theorem State.setAc1_b5 (s : State) (v : Half) : (s.setAc1 v).b5 = s.b5 := rfl
@[simp] theorem State.setAc1_t (s : State) (v : Half) : (s.setAc1 v).t = s.t := rfl
@[simp] theorem State.setAc1_p (s : State) (v : Half) : (s.setAc1 v).p = s.p := rfl
@[simp] theorem State.setAc1_status (s : State) (v : Half) : (s.setAc1 v).status = s.status := rfl
@[simp] theorem State.setAc1_port (s : State) (v : Half) : (s.setAc1 v).port = s.port := rfl
@[simp] theorem State.setAc1_responses (s : State) (v : Half) : (s.setAc1 v).responses = s.responses := rfl

@[simp] theorem State.setAc2_cal (s : State) (v : Half) : (s.setAc2 v).cal = { s.cal with ac2 := v } := rfl
@[simp] theorem State.setAc2_ut (s : State) (v : Half) : (s.setAc2 v).ut = s.ut := rfl
@[simp] theorem State.setAc2_up (s : State) (v : Half) : (s.setAc2 v).up = s.up := rfl
@[simp] theorem State.setAc2_b5 (s : State) (v : Half) : (s.setAc2 v).b5 = s.b5 := rfl
@[simp] theorem State.setAc2_t (s : State) (v : Half) : (s.setAc2 v).t = s.t := rfl
@[simp] theorem State.setAc2_p (s : State) (v : Half) : (s.setAc2 v).p = s.p := rfl
@[simp] theorem State.setAc2_status (s : State) (v : Half) : (s.setAc2 v).status = s.status := rfl
@[simp] theorem State.setAc2_port (s : State) (v : Half) : (s.setAc2 v).port = s.port := rfl
@[simp] theorem State.setAc2_responses (s : State) (v : Half) : (s.setAc2 v).responses = s.responses := rfl

@[simp] theorem State.setAc3_cal (s : State) (v : Half) : (s.setAc3 v).cal = { s.cal with ac3 := v } := rfl
@[simp] theorem State.setAc3_ut (s : State) (v : Half) : (s.setAc3 v).ut = s.ut := rfl
@[simp] theorem State.setAc3_up (s : State) (v : Half) : (s.setAc3 v).up = s.up := rfl
@[simp] theorem State.setAc3_b5 (s : State) (v : Half) : (s.setAc3 v).b5 = s.b5 := rfl
@[simp] theorem State.setAc3_t (s : State) (v : Half) : (s.setAc3 v).t = s.t := rfl
@[simp] theorem State.setAc3_p (s : State) (v : Half) : (s.setAc3 v).p = s.p := rfl
@[simp] theorem State.setAc3_status (s : State) (v : Half) : (s.setAc3 v).status = s.status := rfl
@[simp] theorem State.setAc3_port (s : State) (v : Half) : (s.setAc3 v).port = s.port := rfl
@[simp] theorem State.setAc3_responses (s : State) (v : Half) : (s.setAc3 v).responses = s.responses := rfl

@[simp] theorem State.setAc4_cal (s : State) (v : Half) : (s.setAc4 v).cal = { s.cal with ac4 := v } := rfl
@[simp] theorem State.setAc4_ut (s : State) (v : Half) : (s.setAc4 v).ut = s.ut := rfl
@[simp] theorem State.setAc4_up (s : State) (v : Half) : (s.setAc4 v).up = s.up := rfl
@[simp] theorem State.setAc4_b5 (s : State) (v : Half) : (s.setAc4 v).b5 = s.b5 := rfl
@[simp] theorem State.setAc4_t (s : State) (v : Half) : (s.setAc4 v).t = s.t := rfl
@[simp] theorem State.setAc4_p (s : State) (v : Half) : (s.setAc4 v).p = s.p := rfl
@[simp] theorem State.setAc4_status (s : State) (v : Half) : (s.setAc4 v).status = s.status := rfl
@[simp] theorem State.setAc4_port (s : State) (v : Half) : (s.setAc4 v).port = s.port := rfl
@[simp] theorem State.setAc4_responses (s : State) (v : Half) : (s.setAc4 v).responses = s.responses := rfl

@[simp] theorem State.setAc5_cal (s : State) (v : Half) : (s.setAc5 v).cal = { s.cal with ac5 := v } := rfl
@[simp] theorem State.setAc5_ut (s : State) (v : Half) : (s.setAc5 v).ut = s.ut := rfl
@[simp] theorem State.setAc5_up (s : State) (v : Half) : (s.setAc5 v).up = s.up := rfl
@[simp] theorem State.setAc5_b5 (s : State) (v : Half) : (s.setAc5 v).b5 = s.b5 := rfl
@[simp] theorem State.setAc5_t (s : State) (v : Half) : (s.setAc5 v).t = s.t := rfl
@[simp] theorem State.setAc5_p (s : State) (v : Half) : (s.setAc5 v).p = s.p := rfl
@[simp] theorem State.setAc5_status (s : State) (v : Half) : (s.setAc5 v).status = s.status := rfl
@[simp] theorem State.setAc5_port (s : State) (v : Half) : (s.setAc5 v).port = s.port := rfl
@[simp] theorem State.setAc5_responses (s : State) (v : Half) : (s.setAc5 v).responses = s.responses := rfl

@[simp] theorem State.setAc6_cal (s : State) (v : Half) : (s.setAc6 v).cal = { s.cal with ac6 := v } := rfl
@[simp] theorem State.setAc6_ut (s : State) (v : Half) : (s.setAc6 v).ut = s.ut := rfl
@[simp] theorem State.setAc6_up (s : State) (v : Half) : (s.setAc6 v).up = s.up := rfl
@[simp] theorem State.setAc6_b5 (s : State) (v : Half) : (s.setAc6 v).b5 = s.b5 := rfl
@[simp] theorem State.setAc6_t (s : State) (v : Half) : (s.setAc6 v).t = s.t := rfl
@[simp] theorem State.setAc6_p (s : State) (v : Half) : (s.setAc6 v).p = s.p := rfl
@[simp] theorem State.setAc6_status (s : State) (v : Half) : (s.setAc6 v).status = s.status := rfl
@[simp] theorem State.setAc6_port (s : State) (v : Half) : (s.setAc6 v).port = s.port := rfl
@[simp] theorem State.setAc6_responses (s : State) (v : Half) : (s.setAc6 v).responses = s.responses := rfl

@[simp] theorem State.setB1_cal (s : State) (v : Half) : (s.setB1 v).cal = { s.cal with b1 := v } := rfl
@[simp] theorem State.setB1_ut (s : State) (v : Half) : (s.setB1 v).ut = s.ut := rfl
@[simp] theorem State.setB1_up (s : State) (v : Half) : (s.setB1 v).up = s.up := rfl
@[simp] theorem State.setB1_b5 (s : State) (v : Half) : (s.setB1 v).b5 = s.b5 := rfl
@[simp] theorem State.setB1_t (s : State) (v : Half) : (s.setB1 v).t = s.t := rfl
@[simp] theorem State.setB1_p (s : State) (v : Half) : (s.setB1 v).p = s.p := rfl
@[simp] theorem State.setB1_status (s : State) (v : Half) : (s.setB1 v).status = s.status := rfl
@[simp] theorem State.setB1_port (s : State) (v : Half) : (s.setB1 v).port = s.port := rfl
@[simp] theorem State.setB1_responses (s : State) (v : Half) : (s.setB1 v).responses = s.responses := rfl

@[simp] theorem State.setB2_cal (s : State) (v : Half) : (s.setB2 v).cal = { s.cal with b2 := v } := rfl
@[simp] theorem State.setB2_ut (s : State) (v : Half) : (s.setB2 v).ut = s.ut := rfl
@[simp] theorem State.setB2_up (s : State) (v : Half) : (s.setB2 v).up = s.up := rfl
@[simp] theorem State.setB2_b5 (s : State) (v : Half) : (s.setB2 v).b5 = s.b5 := rfl
@[simp] theorem State.setB2_t (s : State) (v : Half) : (s.setB2 v).t = s.t := rfl
@[simp] theorem State.setB2_p (s : State) (v : Half) : (s.setB2 v).p = s.p := rfl
@[simp] theorem State.setB2_status (s : State) (v : Half) : (s.setB2 v).status = s.status := rfl
@[simp] theorem State.setB2_port (s : State) (v : Half) : (s.setB2 v).port = s.port := rfl
@[simp] theorem State.setB2_responses (s : State) (v : Half) : (s.setB2 v).responses = s.responses := rfl

@[simp] theorem State.setMb_cal (s : State) (v : Half) : (s.setMb v).cal = { s.cal with mb := v } := rfl
@[simp] theorem State.setMb_ut (s : State) (v : Half) : (s.setMb v).ut = s.ut := rfl
@[simp] theorem State.setMb_up (s : State) (v : Half) : (s.setMb v).up = s.up := rfl
@[simp] theorem State.setMb_b5 (s : State) (v : Half) : (s.setMb v).b5 = s.b5 := rfl
@[simp] theorem State.setMb_t (s : State) (v : Half) : (s.setMb v).t = s.t := rfl
@[simp] theorem State.setMb_p (s : State) (v : Half) : (s.setMb v).p = s.p := rfl
@[simp] theorem State.setMb_status (s : State) (v : Half) : (s.setMb v).status = s.status := rfl
@[simp] theorem State.setMb_port (s : State) (v : Half) : (s.setMb v).port = s.port := rfl
@[simp] theorem State.setMb_responses (s : State) (v : Half) : (s.setMb v).responses = s.responses := rfl

@[simp] theorem State.setMc_cal (s : State) (v : Half) : (s.setMc v).cal = { s.cal with mc := v } := rfl
@[simp] theorem State.setMc_ut (s : State) (v : Half) : (s.setMc v).ut = s.ut := rfl
@[simp] theorem State.setMc_up (s : State) (v : Half) : (s.setMc v).up = s.up := rfl
@[simp] theorem State.setMc_b5 (s : State) (v : Half) : (s.setMc v).b5 = s.b5 := rfl
@[simp] theorem State.setMc_t (s : State) (v : Half) : (s.setMc v).t = s.t := rfl
@[simp] theorem State.setMc_p (s : State) (v : Half) : (s.setMc v).p = s.p := rfl
@[simp] theorem State.setMc_status (s : State) (v : Half) : (s.setMc v).status = s.status := rfl
@[simp] theorem State.setMc_port (s : State) (v : Half) : (s.setMc v).port = s.port := rfl
@[simp] theorem State.setMc_responses (s : State) (v : Half) : (s.setMc v).responses = s.responses := rfl

@[simp] theorem State.setMd_cal (s : State) (v : Half) : (s.setMd v).cal = { s.cal with md := v } := rfl
@[simp] theorem State.setMd_ut (s : State) (v : Half) : (s.setMd v).ut = s.ut := rfl
@[simp] theorem State.setMd_up (s : State) (v : Half) : (s.setMd v).up = s.up := rfl
@[simp] theorem State.setMd_b5 (s : State) (v : Half) : (s.setMd v).b5 = s.b5 := rfl
@[simp] theorem State.setMd_t (s : State) (v : Half) : (s.setMd v).t = s.t := rfl
@[simp] theorem State.setMd_p (s : State) (v : Half) : (s.setMd v).p = s.p := rfl
@[simp] theorem State.setMd_status (s : State) (v : Half) : (s.setMd v).status = s.status := rfl
@[simp] theorem State.setMd_port (s : State) (v : Half) : (s.setMd v).port = s.port := rfl
@[simp] theorem State.setMd_responses (s : State) (v : Half) : (s.setMd v).responses = s.responses := rfl

@[simp] theorem State.setUt_cal (s : State) (v : Half) : (s.setUt v).cal = s.cal := rfl
@[simp] theorem State.setUt_ut (s : State) (v : Half) : (s.setUt v).ut = v := rfl
@[simp] theorem State.setUt_up (s : State) (v : Half) : (s.setUt v).up = s.up := rfl
@[simp] theorem State.setUt_b5 (s : State) (v : Half) : (s.setUt v).b5 = s.b5 := rfl
@[simp] theorem State.setUt_t (s : State) (v : Half) : (s.setUt v).t = s.t := rfl
@[simp] theorem State.setUt_p (s : State) (v : Half) : (s.setUt v).p = s.p := rfl
@[simp] theorem State.setUt_status (s : State) (v : Half) : (s.setUt v).status = s.status := rfl
@[simp] theorem State.setUt_port (s : State) (v : Half) : (s.setUt v).port = s.port := rfl
@[simp] theorem State.setUt_responses (s : State) (v : Half) : (s.setUt v).responses = s.responses := rfl

@[simp] theorem State.setUp_cal (s : State) (v : Word) : (s.setUp v).cal = s.cal := rfl
@[simp] theorem State.setUp_ut (s : State) (v : Word) : (s.setUp v).ut = s.ut := rfl
@[simp] theorem State.setUp_up (s : State) (v : Word) : (s.setUp v).up = v := rfl
@[simp] theorem State.setUp_b5 (s : State) (v : Word) : (s.setUp v).b5 = s.b5 := rfl
@[simp] theorem State.setUp_t (s : State) (v : Word) : (s.setUp v).t = s.t := rfl
@[simp] theorem State.setUp_p (s : State) (v : Word) : (s.setUp v).p = s.p := rfl
@[simp] theorem State.setUp_status (s : State) (v : Word) : (s.setUp v).status = s.status := rfl
@[simp] theorem State.setUp_port (s : State) (v : Word) : (s.setUp v).port = s.port := rfl
@[simp] theorem State.setUp_responses (s : State) (v : Word) : (s.setUp v).responses = s.responses := rfl

@[simp] theorem State.setB5_cal (s : State) (v : Word) : (s.setB5 v).cal = s.cal := rfl
@[simp] theorem State.setB5_ut (s : State) (v : Word) : (s.setB5 v).ut = s.ut := rfl
@[simp] theorem State.setB5_up (s : State) (v : Word) : (s.setB5 v).up = s.up := rfl
@[simp] theorem State.setB5_b5 (s : State) (v : Word) : (s.setB5 v).b5 = v := rfl
@[simp] theorem State.setB5_t (s : State) (v : Word) : (s.setB5 v).t = s.t := rfl
@[simp] theorem State.setB5_p (s : State) (v : Word) : (s.setB5 v).p = s.p := rfl
@[simp] theorem State.setB5_status (s : State) (v : Word) : (s.setB5 v).status = s.status := rfl
@[simp] theorem State.setB5_port (s : State) (v : Word) : (s.setB5 v).port = s.port := rfl
@[simp] theorem State.setB5_responses (s : State) (v : Word) : (s.setB5 v).responses = s.responses := rfl

@[simp] theorem State.setT_cal (s : State) (v : Word) : (s.setT v).cal = s.cal := rfl
@[simp] theorem State.setT_ut (s : State) (v : Word) : (s.setT v).ut = s.ut := rfl
@[simp] theorem State.setT_up (s : State) (v : Word) : (s.setT v).up = s.up := rfl
@[simp] theorem State.setT_b5 (s : State) (v : Word) : (s.setT v).b5 = s.b5 := rfl
@[simp] theorem State.setT_t (s : State) (v : Word) : (s.setT v).t = v := rfl
@[simp] theorem State.setT_p (s : State) (v : Word) : (s.setT v).p = s.p := rfl
@[simp] theorem State.setT_status (s : State) (v : Word) : (s.setT v).status = s.status := rfl
@[simp] theorem State.setT_port (s : State) (v : Word) : (s.setT v).port = s.port := rfl
@[simp] theorem State.setT_responses (s : State) (v : Word) : (s.setT v).responses = s.responses := rfl

@[simp] theorem State.setP_cal (s : State) (v : Word) : (s.setP v).cal = s.cal := rfl
@[simp] theorem State.setP_ut (s : State) (v : Word) : (s.setP v).ut = s.ut := rfl
@[simp] theorem State.setP_up (s : State) (v : Word) : (s.setP v).up = s.up := rfl
@[simp] theorem State.setP_b5 (s : State) (v : Word) : (s.setP v).b5 = s.b5 := rfl
@[simp] theorem State.setP_t (s : State) (v : Word) : (s.setP v).t = s.t := rfl
@[simp] theorem State.setP_p (s : State) (v : Word) : (s.setP v).p = v := rfl
@[simp] theorem State.setP_status (s : State) (v : Word) : (s.setP v).status = s.status := rfl
@[simp] theorem State.setP_port (s : State) (v : Word) : (s.setP v).port = s.port := rfl
@[simp] theorem State.setP_responses (s : State) (v : Word) : (s.setP v).responses = s.responses := rfl

@[simp] theorem State.withStatus_cal (s : State) (f : Status) : (s.withStatus f).cal = s.cal := rfl
@[simp] theorem State.withStatus_ut (s : State) (f : Status) : (s.withStatus f).ut = s.ut := rfl
@[simp] theorem State.withStatus_up (s : State) (f : Status) : (s.withStatus f).up = s.up := rfl
@[simp] theorem State.withStatus_b5 (s : State) (f : Status) : (s.withStatus f).b5 = s.b5 := rfl
@[simp] theorem State.withStatus_t (s : State) (f : Status) : (s.withStatus f).t = s.t := rfl
@[simp] theorem State.withStatus_p (s : State) (f : Status) : (s.withStatus f).p = s.p := rfl
@[simp] theorem State.withStatus_status (s : State) (f : Status) : (s.withStatus f).status = f := rfl
@[simp] theorem State.withStatus_port (s : State) (f : Status) : (s.withStatus f).port = s.port := rfl
@[simp] theorem State.withStatus_responses (s : State) (f : Status) : (s.withStatus f).responses = s.responses := rfl

@[simp] theorem State.withPort_cal (s : State) (es : List PortEvent) : (s.withPort es).cal = s.cal := rfl
@[simp] theorem State.withPort_ut (s : State) (es : List PortEvent) : (s.withPort es).ut = s.ut := rfl
@[simp] theorem State.withPort_up (s : State) (es : List PortEvent) : (s.withPort es).up = s.up := rfl
@[simp] theorem State.withPort_b5 (s : State) (es : List PortEvent) : (s.withPort es).b5 = s.b5 := rfl
@[simp] theorem State.withPort_t (s : State) (es : List PortEvent) : (s.withPort es).t = s.t := rfl
@[simp] theorem State.withPort_p (s : State) (es : List PortEvent) : (s.withPort es).p = s.p := rfl
@[simp] theorem State.withPort_status (s : State) (es : List PortEvent) : (s.withPort es).status = s.status := rfl
@[simp] theorem State.withPort_port (s : State) (es : List PortEvent) : (s.withPort es).port = es := rfl
@[simp] theorem State.withPort_responses (s : State) (es : List PortEvent) : (s.withPort es).responses = s.responses := rfl

@[simp] theorem State.respond_cal (s : State) (d : Word) : (s.respond d).cal = s.cal := rfl
@[simp] theorem State.respond_ut (s : State) (d : Word) : (s.respond d).ut = s.ut := rfl
@[simp] theorem State.respond_up (s : State) (d : Word) : (s.respond d).up = s.up := rfl
@[simp] theorem State.respond_b5 (s : State) (d : Word) : (s.respond d).b5 = s.b5 := rfl
@[simp] theorem State.respond_t (s : State) (d : Word) : (s.respond d).t = s.t := rfl
@[simp] theorem State.respond_p (s : State) (d : Word) : (s.respond d).p = s.p := rfl
@[simp] theorem State.respond_status (s : State) (d : Word) : (s.respond d).status = s.status := rfl
@[simp] theorem State.respond_port (s : State) (d : Word) : (s.respond d).port = s.port := rfl
@[simp] theorem State.respond_responses (s : State) (d : Word) : (s.respond d).responses = s.responses ++ [d] := rfl

@[simp] theorem State.recordRange_cal (s : State) (l : List StageResult) : (s.recordRange l).cal = s.cal := rfl
@[simp] theorem State.recordRange_ut (s : State) (l : List StageResult) : (s.recordRange l).ut = s.ut := rfl
@[simp] theorem State.recordRange_up (s : State) (l : List StageResult) : (s.recordRange l).up = s.up := rfl
@[simp] theorem State.recordRange_b5 (s : State) (l : List StageResult) : (s.recordRange l).b5 = s.b5 := rfl
@[simp] theorem State.recordRange_t (s : State) (l : List StageResult) : (s.recordRange l).t = s.t := rfl
@[simp] theorem State.recordRange_p (s : State) (l : List StageResult) : (s.recordRange l).p = s.p := rfl
@[simp] theorem State.recordRange_status (s : State) (l : List StageResult) : (s.recordRange l).status = s.status.recordRange l := rfl
@[simp] theorem State.recordRange_port (s : State) (l : List StageResult) : (s.recordRange l).port = s.port := rfl
@[simp] theorem State.recordRange_responses (s : State) (l : List StageResult) : (s.recordRange l).responses = s.responses := rfl

@[simp] theorem State.raiseCalibrationError_cal (s : State) (c : Cause) : (s.raiseCalibrationError c).cal = s.cal := rfl
@[simp] theorem State.raiseCalibrationError_ut (s : State) (c : Cause) : (s.raiseCalibrationError c).ut = s.ut := rfl
@[simp] theorem State.raiseCalibrationError_up (s : State) (c : Cause) : (s.raiseCalibrationError c).up = s.up := rfl
@[simp] theorem State.raiseCalibrationError_b5 (s : State) (c : Cause) : (s.raiseCalibrationError c).b5 = s.b5 := rfl
@[simp] theorem State.raiseCalibrationError_t (s : State) (c : Cause) : (s.raiseCalibrationError c).t = s.t := rfl
@[simp] theorem State.raiseCalibrationError_p (s : State) (c : Cause) : (s.raiseCalibrationError c).p = s.p := rfl
@[simp] theorem State.raiseCalibrationError_status (s : State) (c : Cause) : (s.raiseCalibrationError c).status = s.status.calibrationError c := rfl
@[simp] theorem State.raiseCalibrationError_port (s : State) (c : Cause) : (s.raiseCalibrationError c).port = s.port := rfl
@[simp] theorem State.raiseCalibrationError_responses (s : State) (c : Cause) : (s.raiseCalibrationError c).responses = s.responses := rfl

@[simp] theorem State.acknowledge_cal (s : State) : s.acknowledge.cal = s.cal := rfl
@[simp] theorem State.acknowledge_ut (s : State) : s.acknowledge.ut = s.ut := rfl
@[simp] theorem State.acknowledge_up (s : State) : s.acknowledge.up = s.up := rfl
@[simp] theorem State.acknowledge_b5 (s : State) : s.acknowledge.b5 = s.b5 := rfl
@[simp] theorem State.acknowledge_t (s : State) : s.acknowledge.t = s.t := rfl
@[simp] theorem State.acknowledge_p (s : State) : s.acknowledge.p = s.p := rfl
@[simp] theorem State.acknowledge_status (s : State) : s.acknowledge.status = s.status.clear := rfl
@[simp] theorem State.acknowledge_port (s : State) : s.acknowledge.port = s.port := rfl
@[simp] theorem State.acknowledge_responses (s : State) : s.acknowledge.responses = s.responses := rfl

@[simp] theorem State.applyReset_cal (s : State) : s.applyReset.cal = Coefficients.zero := rfl
@[simp] theorem State.applyReset_ut (s : State) : s.applyReset.ut = 0#16 := rfl
@[simp] theorem State.applyReset_up (s : State) : s.applyReset.up = 0#32 := rfl
@[simp] theorem State.applyReset_b5 (s : State) : s.applyReset.b5 = 0#32 := rfl
@[simp] theorem State.applyReset_t (s : State) : s.applyReset.t = 0#32 := rfl
@[simp] theorem State.applyReset_p (s : State) : s.applyReset.p = 0#32 := rfl
@[simp] theorem State.applyReset_status (s : State) : s.applyReset.status = Status.zero := rfl
@[simp] theorem State.applyReset_port (s : State) : s.applyReset.port = s.port := rfl
@[simp] theorem State.applyReset_responses (s : State) : s.applyReset.responses = s.responses := rfl

@[simp] theorem State.commitTemp_cal (s : State) (b t : Word) : (s.commitTemp b t).cal = s.cal := rfl
@[simp] theorem State.commitTemp_ut (s : State) (b t : Word) : (s.commitTemp b t).ut = s.ut := rfl
@[simp] theorem State.commitTemp_up (s : State) (b t : Word) : (s.commitTemp b t).up = s.up := rfl
@[simp] theorem State.commitTemp_b5 (s : State) (b t : Word) : (s.commitTemp b t).b5 = b := rfl
@[simp] theorem State.commitTemp_t (s : State) (b t : Word) : (s.commitTemp b t).t = t := rfl
@[simp] theorem State.commitTemp_p (s : State) (b t : Word) : (s.commitTemp b t).p = s.p := rfl
@[simp] theorem State.commitTemp_status (s : State) (b t : Word) : (s.commitTemp b t).status = s.status.tempDone := rfl
@[simp] theorem State.commitTemp_port (s : State) (b t : Word) : (s.commitTemp b t).port = s.port := rfl
@[simp] theorem State.commitTemp_responses (s : State) (b t : Word) : (s.commitTemp b t).responses = s.responses := rfl

@[simp] theorem State.commitPres_cal (s : State) (p : Word) (hi : Bool) : (s.commitPres p hi).cal = s.cal := rfl
@[simp] theorem State.commitPres_ut (s : State) (p : Word) (hi : Bool) : (s.commitPres p hi).ut = s.ut := rfl
@[simp] theorem State.commitPres_up (s : State) (p : Word) (hi : Bool) : (s.commitPres p hi).up = s.up := rfl
@[simp] theorem State.commitPres_b5 (s : State) (p : Word) (hi : Bool) : (s.commitPres p hi).b5 = s.b5 := rfl
@[simp] theorem State.commitPres_t (s : State) (p : Word) (hi : Bool) : (s.commitPres p hi).t = s.t := rfl
@[simp] theorem State.commitPres_p (s : State) (p : Word) (hi : Bool) : (s.commitPres p hi).p = p := rfl
@[simp] theorem State.commitPres_status (s : State) (p : Word) (hi : Bool) : (s.commitPres p hi).status = s.status.presDone hi := rfl
@[simp] theorem State.commitPres_port (s : State) (p : Word) (hi : Bool) : (s.commitPres p hi).port = s.port := rfl
@[simp] theorem State.commitPres_responses (s : State) (p : Word) (hi : Bool) : (s.commitPres p hi).responses = s.responses := rfl

@[simp] theorem State.offer_cal (s : State) (w : Request) : (s.offer w).cal = s.cal := rfl
@[simp] theorem State.offer_ut (s : State) (w : Request) : (s.offer w).ut = s.ut := rfl
@[simp] theorem State.offer_up (s : State) (w : Request) : (s.offer w).up = s.up := rfl
@[simp] theorem State.offer_b5 (s : State) (w : Request) : (s.offer w).b5 = s.b5 := rfl
@[simp] theorem State.offer_t (s : State) (w : Request) : (s.offer w).t = s.t := rfl
@[simp] theorem State.offer_p (s : State) (w : Request) : (s.offer w).p = s.p := rfl
@[simp] theorem State.offer_status (s : State) (w : Request) : (s.offer w).status = s.status := rfl
@[simp] theorem State.offer_port (s : State) (w : Request) : (s.offer w).port = .request w :: s.port := rfl
@[simp] theorem State.offer_responses (s : State) (w : Request) : (s.offer w).responses = s.responses := rfl

@[simp] theorem Status.recordRange_tv (f : Status) (l : List StageResult) : (f.recordRange l).tv = f.tv := rfl
@[simp] theorem Status.recordRange_pv (f : Status) (l : List StageResult) : (f.recordRange l).pv = f.pv := rfl
@[simp] theorem Status.recordRange_terr (f : Status) (l : List StageResult) : (f.recordRange l).terr = f.terr := rfl
@[simp] theorem Status.recordRange_perr (f : Status) (l : List StageResult) : (f.recordRange l).perr = f.perr := rfl
@[simp] theorem Status.recordRange_b7hi (f : Status) (l : List StageResult) : (f.recordRange l).b7hi = f.b7hi := rfl
@[simp] theorem Status.recordRange_ovf (f : Status) (l : List StageResult) : (f.recordRange l).ovf = (f.ovf || l.any StageResult.above) := rfl
@[simp] theorem Status.recordRange_unf (f : Status) (l : List StageResult) : (f.recordRange l).unf = (f.unf || l.any StageResult.below) := rfl
@[simp] theorem Status.recordRange_ill (f : Status) (l : List StageResult) : (f.recordRange l).ill = f.ill := rfl

@[simp] theorem Status.clear_tv (f : Status) : f.clear.tv = f.tv := rfl
@[simp] theorem Status.clear_pv (f : Status) : f.clear.pv = f.pv := rfl
@[simp] theorem Status.clear_terr (f : Status) : f.clear.terr = false := rfl
@[simp] theorem Status.clear_perr (f : Status) : f.clear.perr = false := rfl
@[simp] theorem Status.clear_b7hi (f : Status) : f.clear.b7hi = f.b7hi := rfl
@[simp] theorem Status.clear_ovf (f : Status) : f.clear.ovf = false := rfl
@[simp] theorem Status.clear_unf (f : Status) : f.clear.unf = false := rfl
@[simp] theorem Status.clear_ill (f : Status) : f.clear.ill = false := rfl

@[simp] theorem Status.setIll_tv (f : Status) : f.setIll.tv = f.tv := rfl
@[simp] theorem Status.setIll_pv (f : Status) : f.setIll.pv = f.pv := rfl
@[simp] theorem Status.setIll_terr (f : Status) : f.setIll.terr = f.terr := rfl
@[simp] theorem Status.setIll_perr (f : Status) : f.setIll.perr = f.perr := rfl
@[simp] theorem Status.setIll_b7hi (f : Status) : f.setIll.b7hi = f.b7hi := rfl
@[simp] theorem Status.setIll_ovf (f : Status) : f.setIll.ovf = f.ovf := rfl
@[simp] theorem Status.setIll_unf (f : Status) : f.setIll.unf = f.unf := rfl
@[simp] theorem Status.setIll_ill (f : Status) : f.setIll.ill = true := rfl

@[simp] theorem Status.clearTv_tv (f : Status) : f.clearTv.tv = false := rfl
@[simp] theorem Status.clearTv_pv (f : Status) : f.clearTv.pv = f.pv := rfl
@[simp] theorem Status.clearTv_terr (f : Status) : f.clearTv.terr = f.terr := rfl
@[simp] theorem Status.clearTv_perr (f : Status) : f.clearTv.perr = f.perr := rfl
@[simp] theorem Status.clearTv_b7hi (f : Status) : f.clearTv.b7hi = f.b7hi := rfl
@[simp] theorem Status.clearTv_ovf (f : Status) : f.clearTv.ovf = f.ovf := rfl
@[simp] theorem Status.clearTv_unf (f : Status) : f.clearTv.unf = f.unf := rfl
@[simp] theorem Status.clearTv_ill (f : Status) : f.clearTv.ill = f.ill := rfl

@[simp] theorem Status.tempDone_tv (f : Status) : f.tempDone.tv = true := rfl
@[simp] theorem Status.tempDone_pv (f : Status) : f.tempDone.pv = f.pv := rfl
@[simp] theorem Status.tempDone_terr (f : Status) : f.tempDone.terr = false := rfl
@[simp] theorem Status.tempDone_perr (f : Status) : f.tempDone.perr = f.perr := rfl
@[simp] theorem Status.tempDone_b7hi (f : Status) : f.tempDone.b7hi = f.b7hi := rfl
@[simp] theorem Status.tempDone_ovf (f : Status) : f.tempDone.ovf = f.ovf := rfl
@[simp] theorem Status.tempDone_unf (f : Status) : f.tempDone.unf = f.unf := rfl
@[simp] theorem Status.tempDone_ill (f : Status) : f.tempDone.ill = f.ill := rfl

@[simp] theorem Status.presDone_tv (f : Status) (hi : Bool) : (f.presDone hi).tv = f.tv := rfl
@[simp] theorem Status.presDone_pv (f : Status) (hi : Bool) : (f.presDone hi).pv = true := rfl
@[simp] theorem Status.presDone_terr (f : Status) (hi : Bool) : (f.presDone hi).terr = f.terr := rfl
@[simp] theorem Status.presDone_perr (f : Status) (hi : Bool) : (f.presDone hi).perr = false := rfl
@[simp] theorem Status.presDone_b7hi (f : Status) (hi : Bool) : (f.presDone hi).b7hi = hi := rfl
@[simp] theorem Status.presDone_ovf (f : Status) (hi : Bool) : (f.presDone hi).ovf = f.ovf := rfl
@[simp] theorem Status.presDone_unf (f : Status) (hi : Bool) : (f.presDone hi).unf = f.unf := rfl
@[simp] theorem Status.presDone_ill (f : Status) (hi : Bool) : (f.presDone hi).ill = f.ill := rfl

@[simp] theorem Status.calibrationError_temperature_tv (f : Status) : (f.calibrationError .temperature).tv = false := rfl
@[simp] theorem Status.calibrationError_temperature_pv (f : Status) : (f.calibrationError .temperature).pv = f.pv := rfl
@[simp] theorem Status.calibrationError_temperature_terr (f : Status) : (f.calibrationError .temperature).terr = true := rfl
@[simp] theorem Status.calibrationError_temperature_perr (f : Status) : (f.calibrationError .temperature).perr = f.perr := rfl
@[simp] theorem Status.calibrationError_temperature_b7hi (f : Status) : (f.calibrationError .temperature).b7hi = f.b7hi := rfl
@[simp] theorem Status.calibrationError_temperature_ovf (f : Status) : (f.calibrationError .temperature).ovf = f.ovf := rfl
@[simp] theorem Status.calibrationError_temperature_unf (f : Status) : (f.calibrationError .temperature).unf = f.unf := rfl
@[simp] theorem Status.calibrationError_temperature_ill (f : Status) : (f.calibrationError .temperature).ill = f.ill := rfl

@[simp] theorem Status.calibrationError_pressure_tv (f : Status) : (f.calibrationError .pressure).tv = f.tv := rfl
@[simp] theorem Status.calibrationError_pressure_pv (f : Status) : (f.calibrationError .pressure).pv = false := rfl
@[simp] theorem Status.calibrationError_pressure_terr (f : Status) : (f.calibrationError .pressure).terr = f.terr := rfl
@[simp] theorem Status.calibrationError_pressure_perr (f : Status) : (f.calibrationError .pressure).perr = true := rfl
@[simp] theorem Status.calibrationError_pressure_b7hi (f : Status) : (f.calibrationError .pressure).b7hi = f.b7hi := rfl
@[simp] theorem Status.calibrationError_pressure_ovf (f : Status) : (f.calibrationError .pressure).ovf = f.ovf := rfl
@[simp] theorem Status.calibrationError_pressure_unf (f : Status) : (f.calibrationError .pressure).unf = f.unf := rfl
@[simp] theorem Status.calibrationError_pressure_ill (f : Status) : (f.calibrationError .pressure).ill = f.ill := rfl

end Sys2Proof.Machine
end

