-- ==== Sys2Proof/Laws/Machine.lean ====
section
/-! SUPPORT. Once for each shared operation, everything it can do: the inversion lemmas of TEMP, PRES, a
request and a step, and how the operations treat the flags. -/

namespace Sys2Proof.Machine

/-! ## Recording range flags -/

/-- Recording two lists of stages is recording their concatenation. -/
theorem Status.recordRange_append (f : Status) (l m : List StageResult) :
    (f.recordRange l).recordRange m = f.recordRange (l ++ m) := by
  simp [Status.recordRange, Bool.or_assoc]

/-- Recording the same stages again changes nothing: the flags are sticky (R28). -/
theorem Status.recordRange_idem (f : Status) (l : List StageResult) :
    (f.recordRange l).recordRange l = f.recordRange l := by
  simp [Status.recordRange]

/-- Stages that set no flag change nothing. -/
theorem Status.recordRange_of_clean (f : Status) (l : List StageResult)
    (h : ∀ x ∈ l, x.above = false ∧ x.below = false) : f.recordRange l = f := by
  have ha : l.any StageResult.above = false := by
    rw [List.any_eq_false]; intro x hx; simp [(h x hx).1]
  have hb : l.any StageResult.below = false := by
    rw [List.any_eq_false]; intro x hx; simp [(h x hx).2]
  simp [Status.recordRange, ha, hb]

/-! ## The reserved request (R167) -/

theorem State.reservedRequest_registers (s : State) (r : Reserved) :
    (s.reservedRequest r).cal = s.cal ∧ (s.reservedRequest r).ut = s.ut ∧
    (s.reservedRequest r).up = s.up ∧ (s.reservedRequest r).b5 = s.b5 ∧
    (s.reservedRequest r).t = s.t ∧ (s.reservedRequest r).p = s.p ∧
    (s.reservedRequest r).port = s.port ∧
    (s.reservedRequest r).status = s.status.setIll := by
  cases r <;> simp [State.reservedRequest, Reserved.isRead]

/-! ## The commands TEMP and PRES -/

/-- Everything TEMP can do: it raises CalibrationError cause 1, or it commits (R190, R274). -/
theorem execTemp_cases (s : State) :
    ((Temp.tS s.cal s.ut).val = 0 ∧
      execTemp s = .next ((s.recordRange (Temp.beforeCheck s.cal s.ut)).raiseCalibrationError
        .temperature)) ∨
    ((Temp.tS s.cal s.ut).val ≠ 0 ∧
      execTemp s = .next ((s.recordRange (Temp.beforeCheck s.cal s.ut ++ Temp.afterCheck s.cal s.ut)).commitTemp
        (pattern32 (Temp.tB5 s.cal s.ut).val) (pattern32 (Temp.tT s.cal s.ut)))) := by
  by_cases h : (Temp.tS s.cal s.ut).val = 0
  · exact .inl ⟨h, by simp [execTemp, h]⟩
  · refine .inr ⟨h, ?_⟩
    simp only [execTemp, h, if_false, State.recordRange, ← Status.recordRange_append]
    rfl

/-- Everything PRES can do: it raises CalibrationError cause 2, or it commits (R220, R274). -/
theorem execPres_cases (s : State) :
    (Pres.pB4 s.cal s.b5 = 0 ∧
      execPres s = .next ((s.recordRange (Pres.beforeCheck s.cal s.b5 s.up)).raiseCalibrationError
        .pressure)) ∨
    (Pres.pB4 s.cal s.b5 ≠ 0 ∧
      execPres s = .next ((s.recordRange (Pres.beforeCheck s.cal s.b5 s.up ++
          Pres.afterCheck s.cal s.b5 s.up)).commitPres
        (pattern32 (Pres.pP (Pres.p0 s.cal s.b5 s.up).val).val) (Pres.hi s.cal s.b5 s.up))) := by
  by_cases h : Pres.pB4 s.cal s.b5 = 0
  · exact .inl ⟨h, by simp [execPres, h]⟩
  · refine .inr ⟨h, ?_⟩
    simp only [execPres, h, if_false, State.recordRange, ← Status.recordRange_append]
    rfl

/-! ## A request and a step (R160, R60, R301) -/

theorem performRequest_instr {w : Request} {i : Instr} (h : decode w = .ok i) (s : State) :
    performRequest w s = exec i s := by
  simp [performRequest, h]

theorem performRequest_reserved {w : Request} {r : Reserved} (h : decode w = .error r) (s : State) :
    performRequest w s = .next (s.reservedRequest r) := by
  simp [performRequest, h]

/-- Everything a step can do. -/
theorem step_cases {s s' : State} (h : step s = .next s') :
    (s.port = [] ∧ s' = s) ∨
    (∃ w rest i, s.port = .request w :: rest ∧ decode w = .ok i ∧ exec i (s.withPort rest) = .next s') ∨
    (∃ w rest r, s.port = .request w :: rest ∧ decode w = .error r ∧
      s' = (s.withPort rest).reservedRequest r) ∨
    (∃ q rest, s.port = .reset q :: rest ∧ s' = (s.withPort rest).applyReset) := by
  rcases hp : s.port with _ | ⟨_ | q, rest⟩
  · simp [step, hp, idle] at h
    exact .inl ⟨rfl, h.symm⟩
  · rename_i w
    simp only [step, hp] at h
    rcases hd : decode w with r | i
    · rw [performRequest_reserved hd] at h
      exact .inr (.inr (.inl ⟨w, rest, r, rfl, hd, by simpa using h.symm⟩))
    · rw [performRequest_instr hd] at h
      exact .inr (.inl ⟨w, rest, i, rfl, hd, h⟩)
  · simp only [step, hp] at h
    exact .inr (.inr (.inr ⟨q, rest, rfl, by simpa using h.symm⟩))

/-- A run of k + 1 steps is a step and a run of k. -/
theorem core_run_next {s s' : State} (k : Nat) (h : step s = .next s') :
    Host.Core.run Sys2Proof.core (k + 1) s = Host.Core.run Sys2Proof.core k s' := by
  have h' : Sys2Proof.core.step s = .next s' := h
  simp only [Host.Core.run, h']

end Sys2Proof.Machine
end

