-- ==== Sys2Proof/Laws/PerInstr.lean ====
section
/-! SUPPORT. The per-instruction family EncodedWordMatchesRow: the word an instruction is encoded to matches
the instruction's row of the opcode table (spec/30_encoding.md R96). -/

namespace Sys2Proof.Laws

/-- R96: the encoded word has the row's fixed bits. -/
def EncodedWordMatchesRow.Statement (i : Instr) : Prop :=
  encode i &&& i.opMask = i.opMatch

theorem EncodedWordMatchesRow.rdAc1 : EncodedWordMatchesRow.Statement .rdAc1 := by
  unfold EncodedWordMatchesRow.Statement; decide

theorem EncodedWordMatchesRow.rdAc2 : EncodedWordMatchesRow.Statement .rdAc2 := by
  unfold EncodedWordMatchesRow.Statement; decide

theorem EncodedWordMatchesRow.rdAc3 : EncodedWordMatchesRow.Statement .rdAc3 := by
  unfold EncodedWordMatchesRow.Statement; decide

theorem EncodedWordMatchesRow.rdAc4 : EncodedWordMatchesRow.Statement .rdAc4 := by
  unfold EncodedWordMatchesRow.Statement; decide

theorem EncodedWordMatchesRow.rdAc5 : EncodedWordMatchesRow.Statement .rdAc5 := by
  unfold EncodedWordMatchesRow.Statement; decide

theorem EncodedWordMatchesRow.rdAc6 : EncodedWordMatchesRow.Statement .rdAc6 := by
  unfold EncodedWordMatchesRow.Statement; decide

theorem EncodedWordMatchesRow.rdB1 : EncodedWordMatchesRow.Statement .rdB1 := by
  unfold EncodedWordMatchesRow.Statement; decide

theorem EncodedWordMatchesRow.rdB2 : EncodedWordMatchesRow.Statement .rdB2 := by
  unfold EncodedWordMatchesRow.Statement; decide

theorem EncodedWordMatchesRow.rdMb : EncodedWordMatchesRow.Statement .rdMb := by
  unfold EncodedWordMatchesRow.Statement; decide

theorem EncodedWordMatchesRow.rdMc : EncodedWordMatchesRow.Statement .rdMc := by
  unfold EncodedWordMatchesRow.Statement; decide

theorem EncodedWordMatchesRow.rdMd : EncodedWordMatchesRow.Statement .rdMd := by
  unfold EncodedWordMatchesRow.Statement; decide

theorem EncodedWordMatchesRow.rdUt : EncodedWordMatchesRow.Statement .rdUt := by
  unfold EncodedWordMatchesRow.Statement; decide

theorem EncodedWordMatchesRow.rdUp : EncodedWordMatchesRow.Statement .rdUp := by
  unfold EncodedWordMatchesRow.Statement; decide

theorem EncodedWordMatchesRow.rdB5 : EncodedWordMatchesRow.Statement .rdB5 := by
  unfold EncodedWordMatchesRow.Statement; decide

theorem EncodedWordMatchesRow.rdT : EncodedWordMatchesRow.Statement .rdT := by
  unfold EncodedWordMatchesRow.Statement; decide

theorem EncodedWordMatchesRow.rdP : EncodedWordMatchesRow.Statement .rdP := by
  unfold EncodedWordMatchesRow.Statement; decide

theorem EncodedWordMatchesRow.rdCmd : EncodedWordMatchesRow.Statement .rdCmd := by
  unfold EncodedWordMatchesRow.Statement; decide

theorem EncodedWordMatchesRow.rdStatus : EncodedWordMatchesRow.Statement .rdStatus := by
  unfold EncodedWordMatchesRow.Statement; decide

theorem EncodedWordMatchesRow.wrAc1 (value : Word) :
    EncodedWordMatchesRow.Statement (.wrAc1 value) := by
  unfold EncodedWordMatchesRow.Statement encode Instr.opMask
  rw [Request.mk_and_firstByte]
  rfl

theorem EncodedWordMatchesRow.wrAc2 (value : Word) :
    EncodedWordMatchesRow.Statement (.wrAc2 value) := by
  unfold EncodedWordMatchesRow.Statement encode Instr.opMask
  rw [Request.mk_and_firstByte]
  rfl

theorem EncodedWordMatchesRow.wrAc3 (value : Word) :
    EncodedWordMatchesRow.Statement (.wrAc3 value) := by
  unfold EncodedWordMatchesRow.Statement encode Instr.opMask
  rw [Request.mk_and_firstByte]
  rfl

theorem EncodedWordMatchesRow.wrAc4 (value : Word) :
    EncodedWordMatchesRow.Statement (.wrAc4 value) := by
  unfold EncodedWordMatchesRow.Statement encode Instr.opMask
  rw [Request.mk_and_firstByte]
  rfl

theorem EncodedWordMatchesRow.wrAc5 (value : Word) :
    EncodedWordMatchesRow.Statement (.wrAc5 value) := by
  unfold EncodedWordMatchesRow.Statement encode Instr.opMask
  rw [Request.mk_and_firstByte]
  rfl

theorem EncodedWordMatchesRow.wrAc6 (value : Word) :
    EncodedWordMatchesRow.Statement (.wrAc6 value) := by
  unfold EncodedWordMatchesRow.Statement encode Instr.opMask
  rw [Request.mk_and_firstByte]
  rfl

theorem EncodedWordMatchesRow.wrB1 (value : Word) :
    EncodedWordMatchesRow.Statement (.wrB1 value) := by
  unfold EncodedWordMatchesRow.Statement encode Instr.opMask
  rw [Request.mk_and_firstByte]
  rfl

theorem EncodedWordMatchesRow.wrB2 (value : Word) :
    EncodedWordMatchesRow.Statement (.wrB2 value) := by
  unfold EncodedWordMatchesRow.Statement encode Instr.opMask
  rw [Request.mk_and_firstByte]
  rfl

theorem EncodedWordMatchesRow.wrMb (value : Word) :
    EncodedWordMatchesRow.Statement (.wrMb value) := by
  unfold EncodedWordMatchesRow.Statement encode Instr.opMask
  rw [Request.mk_and_firstByte]
  rfl

theorem EncodedWordMatchesRow.wrMc (value : Word) :
    EncodedWordMatchesRow.Statement (.wrMc value) := by
  unfold EncodedWordMatchesRow.Statement encode Instr.opMask
  rw [Request.mk_and_firstByte]
  rfl

theorem EncodedWordMatchesRow.wrMd (value : Word) :
    EncodedWordMatchesRow.Statement (.wrMd value) := by
  unfold EncodedWordMatchesRow.Statement encode Instr.opMask
  rw [Request.mk_and_firstByte]
  rfl

theorem EncodedWordMatchesRow.wrUt (value : Word) :
    EncodedWordMatchesRow.Statement (.wrUt value) := by
  unfold EncodedWordMatchesRow.Statement encode Instr.opMask
  rw [Request.mk_and_firstByte]
  rfl

theorem EncodedWordMatchesRow.wrUp (value : Word) :
    EncodedWordMatchesRow.Statement (.wrUp value) := by
  unfold EncodedWordMatchesRow.Statement encode Instr.opMask
  rw [Request.mk_and_firstByte]
  rfl

theorem EncodedWordMatchesRow.wrB5 (value : Word) :
    EncodedWordMatchesRow.Statement (.wrB5 value) := by
  unfold EncodedWordMatchesRow.Statement encode Instr.opMask
  rw [Request.mk_and_firstByte]
  rfl

theorem EncodedWordMatchesRow.nop : EncodedWordMatchesRow.Statement .nop := by
  unfold EncodedWordMatchesRow.Statement; decide

theorem EncodedWordMatchesRow.temp : EncodedWordMatchesRow.Statement .temp := by
  unfold EncodedWordMatchesRow.Statement; decide

theorem EncodedWordMatchesRow.pres : EncodedWordMatchesRow.Statement .pres := by
  unfold EncodedWordMatchesRow.Statement; decide

theorem EncodedWordMatchesRow.clr : EncodedWordMatchesRow.Statement .clr := by
  unfold EncodedWordMatchesRow.Statement; decide

end Sys2Proof.Laws
end

