-- ==== Sys2Proof/Laws/Pressure.lean ====
section
/-! SUPPORT. What each stage of PRES computes, in terms of the reference forms, with its range
(spec/43_pressure.md R221 to R235), and what the stages record in the flags (R237). -/

namespace Sys2Proof.Machine

variable (c : Coefficients) (b5 up : Word)

/-- Stage P1 (R221). -/
theorem Pres.pB6_val : (Pres.pB6 b5).val = Wrapped.b6 b5 := rfl

/-- B6 is an s32. -/
theorem Wrapped.b6_range :
    -2147483648 ≤ Wrapped.b6 b5 ∧ Wrapped.b6 b5 ≤ 2147483647 := wrapS32_range _

/-- Stage P2 (R222). -/
theorem Pres.pK_val : Pres.pK b5 = Wrapped.k b5 := by
  unfold Pres.pK Wrapped.k; rw [asr_eq]; rfl

/-- A stage result shifted right by n lies in `[-m, m - 1]` with `m * 2^n = 2^31`. -/
theorem asr_s32_range (r : Int) (n : Nat) (m : Int) (hm : m * 2^n = 2147483648) :
    -m ≤ asr (s32 r).val n ∧ asr (s32 r).val n ≤ m - 1 := by
  have h := s32_range r
  rw [asr_eq]
  have hp : (0:Int) < 2^n := by positivity
  constructor
  · rw [Int.le_ediv_iff_mul_le hp]; nlinarith
  · rw [← Int.lt_add_one_iff, Int.ediv_lt_iff_lt_mul hp]; nlinarith

/-- Stage P3 (R225). -/
theorem Pres.pX1a_range :
    -1048576 ≤ Pres.pX1a c b5 ∧ Pres.pX1a c b5 ≤ 1048575 := asr_s32_range _ 11 1048576 (by norm_num)

/-- Stage P4 (R225). -/
theorem Pres.pX2a_range :
    -1048576 ≤ Pres.pX2a c b5 ∧ Pres.pX2a c b5 ≤ 1048575 := asr_s32_range _ 11 1048576 (by norm_num)

/-- Stage P7 (R229). -/
theorem Pres.pX1b_range :
    -262144 ≤ Pres.pX1b c b5 ∧ Pres.pX1b c b5 ≤ 262143 := asr_s32_range _ 13 262144 (by norm_num)

/-- Stage P8 (R229). -/
theorem Pres.pX2b_range :
    -32768 ≤ Pres.pX2b c b5 ∧ Pres.pX2b c b5 ≤ 32767 := asr_s32_range _ 16 32768 (by norm_num)

/-- Stage P13 (R235). -/
theorem Pres.pX1c_range (p0 : Int) :
    -32768 ≤ Pres.pX1c p0 ∧ Pres.pX1c p0 ≤ 32767 := asr_s32_range _ 16 32768 (by norm_num)

/-- Stage P14 (R235). -/
theorem Pres.pX2c_range (p0 : Int) :
    -32768 ≤ Pres.pX2c p0 ∧ Pres.pX2c p0 ≤ 32767 := asr_s32_range _ 16 32768 (by norm_num)

/-- Stage P5 is exact (R225). -/
theorem Pres.pX3a_val : (Pres.pX3a c b5).val = Pres.pX1a c b5 + Pres.pX2a c b5 := by
  have h1 := Pres.pX1a_range c b5; have h2 := Pres.pX2a_range c b5
  exact s32_val_of_range (by omega)

/-- Stage P6, `AC1 × 4` is exact (R226). -/
theorem Pres.pE_val :
    (Pres.pE c).val = c.ac1.toInt * 4 ∧ -131072 ≤ c.ac1.toInt*4 ∧ c.ac1.toInt*4 ≤ 131068 := by
  have h1 := sext16_range c.ac1; unfold sext16 at h1
  exact ⟨s32_val_of_range (by unfold sext16; omega), by omega, by omega⟩

/-- Stage P6 (R226). -/
theorem Pres.pG_val : (Pres.pG c b5).val = c.ac1.toInt * 4 + (Pres.pX1a c b5 + Pres.pX2a c b5) := by
  have h1 := Pres.pX1a_range c b5; have h2 := Pres.pX2a_range c b5; have h3 := Pres.pE_val c
  unfold Pres.pG; rw [h3.1, Pres.pX3a_val]; exact s32_val_of_range (by omega)

/-- Stage P6 with OSS = 0 (R226). -/
theorem Pres.pH_val : (Pres.pH c b5).val = c.ac1.toInt * 4 + (Pres.pX1a c b5 + Pres.pX2a c b5) := by
  have h1 := Pres.pX1a_range c b5; have h2 := Pres.pX2a_range c b5; have h3 := Pres.pE_val c
  unfold Pres.pH; rw [Pres.pG_val]; simp only [Config.oss, pow_zero, mul_one]; exact s32_val_of_range (by omega)

/-- Stage P6 (R226). -/
theorem Pres.pI_val :
    (Pres.pI c b5).val = c.ac1.toInt * 4 + (Pres.pX1a c b5 + Pres.pX2a c b5) + 2 := by
  have h1 := Pres.pX1a_range c b5; have h2 := Pres.pX2a_range c b5; have h3 := Pres.pE_val c
  unfold Pres.pI; rw [Pres.pH_val]; exact s32_val_of_range (by omega)

/-- Stage P6, B3 (R226). -/
theorem Pres.pB3_val : Pres.pB3 c b5 = Wrapped.b3 c b5 := by
  unfold Pres.pB3 Wrapped.b3; rw [asr_eq, Pres.pI_val]
  unfold Pres.pX1a Pres.pX2a; rw [asr_eq, asr_eq]
  unfold Pres.pM1 Pres.pM2; rw [Pres.pK_val]; rfl

/-- A bound on B3 that stage P11 needs. -/
theorem Pres.pB3_range : -600000 ≤ Pres.pB3 c b5 ∧ Pres.pB3 c b5 ≤ 600000 := by
  have h1 := Pres.pX1a_range c b5; have h2 := Pres.pX2a_range c b5; have h3 := Pres.pE_val c
  unfold Pres.pB3; rw [asr_eq, Pres.pI_val]; omega

/-- Stage P9 is exact (R229). -/
theorem Pres.pL_val : (Pres.pL c b5).val = Pres.pX1b c b5 + Pres.pX2b c b5 := by
  have h1 := Pres.pX1b_range c b5; have h2 := Pres.pX2b_range c b5
  exact s32_val_of_range (by omega)

/-- Stage P9 (R229). -/
theorem Pres.pN_val : (Pres.pN c b5).val = Pres.pX1b c b5 + Pres.pX2b c b5 + 2 := by
  have h1 := Pres.pX1b_range c b5; have h2 := Pres.pX2b_range c b5
  unfold Pres.pN; rw [Pres.pL_val]; exact s32_val_of_range (by omega)

/-- Stage P9, the second X3 (R229). -/
theorem Pres.pX3b_val : Pres.pX3b c b5 = Wrapped.x3 c b5 := by
  unfold Pres.pX3b Wrapped.x3; rw [asr_eq, Pres.pN_val]
  unfold Pres.pX1b Pres.pX2b; rw [asr_eq, asr_eq]
  unfold Pres.pM3 Pres.pM4; rw [Pres.pK_val]; rfl

/-- The range of the second X3 (R230). -/
theorem Pres.pX3b_range : -73728 ≤ Pres.pX3b c b5 ∧ Pres.pX3b c b5 ≤ 73728 := by
  have h1 := Pres.pX1b_range c b5; have h2 := Pres.pX2b_range c b5
  unfold Pres.pX3b; rw [asr_eq, Pres.pN_val]; omega

/-- Stage P10 on the signed side is exact (R230). -/
theorem Pres.pV_val : (Pres.pV c b5).val = Wrapped.x3 c b5 + 32768 := by
  have h := Pres.pX3b_range c b5
  unfold Pres.pV; rw [← Pres.pX3b_val]; exact s32_val_of_range (by omega)

/-- Stage P10, the crossing (R230, R130). -/
theorem Pres.pU_val : (Pres.pU c b5).val = (Wrapped.x3 c b5 + 32768) % 2^32 := by
  unfold Pres.pU; rw [Pres.pV_val]; rfl

/-- Stage P10, the product (R230). -/
theorem Pres.pW_val : (Pres.pW c b5).val = Wrapped.scaled c b5 % 2^32 := by
  unfold Pres.pW Wrapped.scaled; rw [Pres.pU_val]; rfl

/-- Stage P10, B4 (R230). -/
theorem Pres.pB4_val : Pres.pB4 c b5 = Wrapped.b4 c b5 := by
  unfold Pres.pB4 Wrapped.b4; rw [lsr_eq, Pres.pW_val]

/-- Stage P11, the crossing (R231, R130). -/
theorem Pres.pD_val : (Pres.pD c b5 up).val = Wrapped.difference c b5 up := by
  unfold Pres.pD Wrapped.difference; rw [Pres.pB3_val]; rfl

/-- Stage P11, B7 (R231). -/
theorem Pres.pB7_val : (Pres.pB7 c b5 up).val = Wrapped.b7 c b5 up := by
  unfold Pres.pB7 Wrapped.b7; rw [Pres.pD_val]; simp only [lsr, Config.oss]; rfl

/-- B7 is a u32. -/
theorem Pres.pB7_range :
    0 ≤ (Pres.pB7 c b5 up).val ∧ (Pres.pB7 c b5 up).val ≤ 4294967295 := u32_range _

/-- The range of B4 (R230). -/
theorem Pres.pB4_range : 0 ≤ Pres.pB4 c b5 ∧ Pres.pB4 c b5 ≤ 131071 := by
  have h := u32_range (zext16 c.ac4 * (Pres.pU c b5).val)
  unfold Pres.pB4; rw [lsr_eq]; unfold Pres.pW; omega

/-- Stage P12, which branch (R232). -/
theorem Pres.hi_iff : Pres.hi c b5 up = decide (2147483648 ≤ Wrapped.b7 c b5 up) := by
  unfold Pres.hi; rw [Pres.pB7_val]

/-- Stage P12, the low branch doubles exactly (R232). -/
theorem Pres.pDoubled_exact (h : (Pres.pB7 c b5 up).val < 2147483648) :
    (Pres.pDoubled c b5 up).val = (Pres.pB7 c b5 up).val * 2 ∧
    (Pres.pDoubled c b5 up).above = false ∧ (Pres.pDoubled c b5 up).below = false := by
  have hr := Pres.pB7_range c b5 up
  exact ⟨u32_val_of_range (by omega), u32_flags_of_range (by omega)⟩

/-- Stage P12, the quotient (R232). -/
theorem Pres.pQ0_val : Pres.pQ0 c b5 up = Wrapped.quotient c b5 up := by
  have h4 := Pres.pB4_range c b5
  unfold Pres.pQ0 Wrapped.quotient
  rw [Pres.hi_iff]
  by_cases h : Wrapped.b7 c b5 up < 2^31
  · have : decide (2147483648 ≤ Wrapped.b7 c b5 up) = false := by simpa using h
    rw [this, if_pos h]
    show Pres.quotientLow c b5 up = _
    unfold Pres.quotientLow
    rw [(Pres.pDoubled_exact c b5 up (by rw [Pres.pB7_val]; exact h)).1, udiv_eq h4.1, Pres.pB7_val, Pres.pB4_val]
  · have : decide (2147483648 ≤ Wrapped.b7 c b5 up) = true := by simp at h ⊢; exact h
    rw [this, if_neg h]
    show (Pres.quotientHigh c b5 up).val = _
    unfold Pres.quotientHigh
    rw [udiv_eq h4.1, Pres.pB7_val, Pres.pB4_val]; rfl

/-- Stage P12, the quotient as a signed value (R232, R130). -/
theorem Pres.p0_val : (Pres.p0 c b5 up).val = Wrapped.p0 c b5 up := by
  unfold Pres.p0 Wrapped.p0; rw [Pres.pQ0_val]; rfl

/-- The quotient is an s32. -/
theorem Wrapped.p0_range :
    -2147483648 ≤ Wrapped.p0 c b5 up ∧ Wrapped.p0 c b5 up ≤ 2147483647 := wrapS32_range _

/-- Stage P13, the square (R233). -/
theorem Pres.pS_val (p0 : Int) : (Pres.pS p0).val = Wrapped.square p0 := by
  unfold Pres.pS Pres.pR Wrapped.square; rw [asr_eq]; rfl

/-- Stage P15 is exact up to its last sum (R235). -/
theorem Pres.pZ1_val (p0 : Int) : (Pres.pZ1 p0).val = Pres.pX1c p0 + Pres.pX2c p0 := by
  have h1 := Pres.pX1c_range p0; have h2 := Pres.pX2c_range p0
  exact s32_val_of_range (by omega)

/-- Stage P15 (R235). -/
theorem Pres.pZ2_val (p0 : Int) : (Pres.pZ2 p0).val = Pres.pX1c p0 + Pres.pX2c p0 + 3791 := by
  have h1 := Pres.pX1c_range p0; have h2 := Pres.pX2c_range p0
  unfold Pres.pZ2; rw [Pres.pZ1_val]; exact s32_val_of_range (by omega)

/-- Stage P15, the exact final sum (R235). -/
theorem Pres.corrected_eq (p0 : Int) : p0 + Pres.pZ3 p0 = Wrapped.corrected p0 := by
  unfold Pres.pZ3 Wrapped.corrected; rw [asr_eq, Pres.pZ2_val]
  unfold Pres.pX1c Pres.pX2c; rw [asr_eq, asr_eq]
  unfold Pres.pT Pres.pY; rw [Pres.pS_val]; rfl

/-- Stage P15, the final pressure (R235). -/
theorem Pres.pP_val (p0 : Int) : (Pres.pP p0).val = wrapS32 (Wrapped.corrected p0) := by
  unfold Pres.pP; rw [Pres.corrected_eq]; rfl

/-- Storing a wrapped value stores the value. -/
theorem pattern32_wrapS32 (r : Int) : pattern32 (wrapS32 r) = BitVec.ofInt 32 r := by
  apply BitVec.eq_of_toInt_eq
  have := sext32_pattern32 (wrapS32 r)
  unfold sext32 at this
  rw [this, BitVec.toInt_ofInt]
  show wrapS32 (wrapS32 r) = wrapS32 r
  exact wrapS32_of_range (wrapS32_range r)

/-- A square beyond s32. -/
theorem square_above_of_large (x : Int) (h : 46341 ≤ x ∨ x ≤ -46341) : 2147483647 < x * x := by
  rcases h with h | h <;> nlinarith

/-- A square within s32. -/
theorem square_le_of_small (x : Int) (h : ¬ (46341 ≤ x ∨ x ≤ -46341)) : x * x ≤ 2147483647 := by
  have h1 : -46340 ≤ x ∧ x ≤ 46340 := by omega
  nlinarith

/-- When a square leaves s32 (R237, stages P2 and P13). -/
theorem square_above_iff (x : Int) : (2147483647 < x * x) ↔ (46341 ≤ x ∨ x ≤ -46341) := by
  constructor
  · intro h; by_contra h'; have := square_le_of_small x h'; omega
  · exact square_above_of_large x

/-- What stages P1 to P11 record: the conditions of R237. -/
theorem Status.recordRange_presBefore (f : Status) :
    f.recordRange (Pres.beforeCheck c b5 up) = { f with
      ovf := f.ovf || Wrapped.ovfBefore c b5 up
      unf := f.unf || Wrapped.unfBefore c b5 up } := by
  have e1 := Pres.pX1a_range c b5; have e2 := Pres.pX2a_range c b5; have e3 := Pres.pE_val c
  have e4 := Pres.pX1b_range c b5; have e5 := Pres.pX2b_range c b5; have e6 := Pres.pX3b_range c b5
  have e7 := Pres.pB3_range c b5
  have hup := sext32_range up
  have hb5 := sext32_range b5
  have f1 : (Pres.pX3a c b5).above = false ∧ (Pres.pX3a c b5).below = false := s32_flags_of_range (by omega)
  have f2 : (Pres.pE c).above = false ∧ (Pres.pE c).below = false := s32_flags_of_range (by unfold sext16; omega)
  have f3 : (Pres.pG c b5).above = false ∧ (Pres.pG c b5).below = false := by
    unfold Pres.pG; rw [e3.1, Pres.pX3a_val]; exact s32_flags_of_range (by omega)
  have f4 : (Pres.pH c b5).above = false ∧ (Pres.pH c b5).below = false := by
    unfold Pres.pH; rw [Pres.pG_val]; simp only [Config.oss, pow_zero, mul_one]; exact s32_flags_of_range (by omega)
  have f5 : (Pres.pI c b5).above = false ∧ (Pres.pI c b5).below = false := by
    unfold Pres.pI; rw [Pres.pH_val]; exact s32_flags_of_range (by omega)
  have f6 : (Pres.pL c b5).above = false ∧ (Pres.pL c b5).below = false := s32_flags_of_range (by omega)
  have f7 : (Pres.pN c b5).above = false ∧ (Pres.pN c b5).below = false := by
    unfold Pres.pN; rw [Pres.pL_val]; exact s32_flags_of_range (by omega)
  have f8 : (Pres.pV c b5).above = false ∧ (Pres.pV c b5).below = false := s32_flags_of_range (by omega)
  have g1 : (Pres.pB6 b5).above = false := by
    rw [Bool.eq_false_iff]; intro h; unfold Pres.pB6 at h; rw [s32_above_iff] at h; omega
  have g2 : (Pres.pB6 b5).below = decide (b5.toInt < -2147479648) := by
    rw [Bool.eq_iff_iff, decide_eq_true_iff]; unfold Pres.pB6; rw [s32_below_iff]; unfold sext32; omega
  have g3 : (Pres.pQ b5).above = decide (46341 ≤ Wrapped.b6 b5 ∨ Wrapped.b6 b5 ≤ -46341) := by
    rw [Bool.eq_iff_iff, decide_eq_true_iff]; unfold Pres.pQ; rw [s32_above_iff, Pres.pB6_val]; exact square_above_iff _
  have g4 : (Pres.pQ b5).below = false := by
    rw [Bool.eq_false_iff]; intro h; unfold Pres.pQ at h; rw [s32_below_iff] at h; nlinarith [mul_self_nonneg (Pres.pB6 b5).val]
  have m1 : (Pres.pM1 c b5).above = Wrapped.aboveS32 (c.b2.toInt * Wrapped.k b5) ∧ (Pres.pM1 c b5).below = Wrapped.belowS32 (c.b2.toInt * Wrapped.k b5) := by
    unfold Pres.pM1; rw [Pres.pK_val]; exact ⟨rfl, rfl⟩
  have m4 : (Pres.pM4 c b5).above = Wrapped.aboveS32 (c.b1.toInt * Wrapped.k b5) ∧ (Pres.pM4 c b5).below = Wrapped.belowS32 (c.b1.toInt * Wrapped.k b5) := by
    unfold Pres.pM4; rw [Pres.pK_val]; exact ⟨rfl, rfl⟩
  have m2 : (Pres.pM2 c b5).above = Wrapped.aboveS32 (c.ac2.toInt * Wrapped.b6 b5) ∧ (Pres.pM2 c b5).below = Wrapped.belowS32 (c.ac2.toInt * Wrapped.b6 b5) := ⟨rfl, rfl⟩
  have m3 : (Pres.pM3 c b5).above = Wrapped.aboveS32 (c.ac3.toInt * Wrapped.b6 b5) ∧ (Pres.pM3 c b5).below = Wrapped.belowS32 (c.ac3.toInt * Wrapped.b6 b5) := ⟨rfl, rfl⟩
  have u1 : (Pres.pU c b5).below = decide (Wrapped.x3 c b5 < -32768) := by
    rw [Bool.eq_iff_iff, decide_eq_true_iff]; unfold Pres.pU; rw [u32_below_iff, Pres.pV_val]; omega
  have u2 : (Pres.pU c b5).above = false := by
    rw [Bool.eq_false_iff]; intro h; unfold Pres.pU at h; rw [u32_above_iff, Pres.pV_val, ← Pres.pX3b_val] at h; omega
  have hac4 := zext16_range c.ac4
  have hU := u32_range (Pres.pV c b5).val
  have w1 : (Pres.pW c b5).above = decide (4294967295 < Wrapped.scaled c b5) := by
    rw [Bool.eq_iff_iff, decide_eq_true_iff]; unfold Pres.pW; rw [u32_above_iff, Pres.pU_val]; rfl
  have w2 : (Pres.pW c b5).below = false := by
    rw [Bool.eq_false_iff]; intro h; unfold Pres.pW at h; rw [u32_below_iff] at h
    have : 0 ≤ zext16 c.ac4 * (Pres.pU c b5).val := mul_nonneg hac4.1 hU.1
    omega
  have d1 : (Pres.pD c b5 up).below = decide (up.toInt < Wrapped.b3 c b5) := by
    rw [Bool.eq_iff_iff, decide_eq_true_iff]; unfold Pres.pD; rw [u32_below_iff, Pres.pB3_val]; unfold sext32; omega
  have d2 : (Pres.pD c b5 up).above = false := by
    rw [Bool.eq_false_iff]; intro h; unfold Pres.pD at h; rw [u32_above_iff] at h; omega
  have hD : 0 ≤ (Pres.pD c b5 up).val := (u32_range _).1
  have b1 : (Pres.pB7 c b5 up).above = decide (85900 ≤ Wrapped.difference c b5 up) := by
    rw [Bool.eq_iff_iff, decide_eq_true_iff]; unfold Pres.pB7; rw [u32_above_iff, Pres.pD_val]
    show 4294967295 < Wrapped.difference c b5 up * 50000 ↔ _
    omega
  have b2 : (Pres.pB7 c b5 up).below = false := by
    rw [Bool.eq_false_iff]; intro h; unfold Pres.pB7 at h; rw [u32_below_iff] at h
    have : (Pres.pD c b5 up).val * 50000 < 0 := h
    omega
  simp [Status.recordRange, Pres.beforeCheck, Wrapped.ovfBefore, Wrapped.unfBefore, f1, f2, f3, f4, f5, f6, f7, f8, g1, g2, g3, g4, m1, m2, m3, m4, u1, u2, w1, w2, d1, d2, b1, b2, Bool.or_assoc]

/-- What stages P12 to P15 record: the conditions of R237. -/
theorem Status.recordRange_presAfter (f : Status) (h4 : Wrapped.b4 c b5 ≠ 0) :
    f.recordRange (Pres.afterCheck c b5 up) = { f with
      ovf := f.ovf || Wrapped.ovfAfter c b5 up
      unf := f.unf || Wrapped.unfAfter c b5 up } := by
  have hb4 := Pres.pB4_range c b5
  rw [Pres.pB4_val] at hb4
  have hb7 := Pres.pB7_range c b5 up
  rw [Pres.pB7_val] at hb7
  have hp0 := Wrapped.p0_range c b5 up
  have q1 : (Pres.branchStage c b5 up).above = decide (Wrapped.b4 c b5 = 1 ∧ 2^31 ≤ Wrapped.b7 c b5 up) ∧ (Pres.branchStage c b5 up).below = false := by
    unfold Pres.branchStage
    rw [Pres.hi_iff]
    by_cases h : Wrapped.b7 c b5 up < 2147483648
    · have e : decide (2147483648 ≤ Wrapped.b7 c b5 up) = false := by rw [decide_eq_false_iff_not]; omega
      rw [e]
      have := Pres.pDoubled_exact c b5 up (by rw [Pres.pB7_val]; exact h)
      refine ⟨?_, this.2.2⟩
      show (Pres.pDoubled c b5 up).above = _
      rw [this.2.1, eq_comm, decide_eq_false_iff_not]; omega
    · have e : decide (2147483648 ≤ Wrapped.b7 c b5 up) = true := by rw [decide_eq_true_iff]; omega
      rw [e]
      show (Pres.quotientHigh c b5 up).above = _ ∧ (Pres.quotientHigh c b5 up).below = false
      unfold Pres.quotientHigh
      rw [udiv_eq (by rw [Pres.pB4_val]; omega), Pres.pB7_val, Pres.pB4_val]
      have hq : 0 ≤ Wrapped.b7 c b5 up / Wrapped.b4 c b5 := Int.ediv_nonneg hb7.1 hb4.1
      constructor
      · rw [Bool.eq_iff_iff, decide_eq_true_iff, u32_above_iff]
        constructor
        · intro hh
          refine ⟨?_, by omega⟩
          by_contra h1
          have h2 : 2 ≤ Wrapped.b4 c b5 := by omega
          have := Int.ediv_mul_le (Wrapped.b7 c b5 up) h4
          nlinarith
        · rintro ⟨h1, _⟩
          rw [h1, Int.ediv_one]; omega
      · rw [Bool.eq_false_iff]; intro hh; rw [u32_below_iff] at hh; omega
  have hQ : 0 ≤ Wrapped.quotient c b5 up := by
    unfold Wrapped.quotient
    split
    · exact Int.ediv_nonneg (by omega) hb4.1
    · omega
  have q2 : (Pres.p0 c b5 up).above = decide (2147483648 ≤ Wrapped.quotient c b5 up) ∧ (Pres.p0 c b5 up).below = false := by
    constructor
    · rw [Bool.eq_iff_iff, decide_eq_true_iff]; unfold Pres.p0; rw [s32_above_iff, Pres.pQ0_val]; omega
    · rw [Bool.eq_false_iff]; intro h; unfold Pres.p0 at h; rw [s32_below_iff, Pres.pQ0_val] at h; omega
  have key : ∀ p0 : Int, -2147483648 ≤ p0 ∧ p0 ≤ 2147483647 →
     ((Pres.pS p0).above = decide (46341 ≤ p0/2^8 ∨ p0/2^8 ≤ -46341) ∧ (Pres.pS p0).below = false) ∧
     ((Pres.pT p0).above = decide (706875 ≤ Wrapped.square p0) ∧ (Pres.pT p0).below = Wrapped.belowS32 (Wrapped.square p0 * 3038)) ∧
     ((Pres.pY p0).above = decide (p0 < -291896) ∧ (Pres.pY p0).below = decide (291896 < p0)) ∧
     ((Pres.pZ1 p0).above = false ∧ (Pres.pZ1 p0).below = false) ∧ ((Pres.pZ2 p0).above = false ∧ (Pres.pZ2 p0).below = false) ∧
     ((Pres.pP p0).above = Wrapped.aboveS32 (Wrapped.corrected p0) ∧ (Pres.pP p0).below = Wrapped.belowS32 (Wrapped.corrected p0)) := by
    intro p0 hp
    have h1 := Pres.pX1c_range p0; have h2 := Pres.pX2c_range p0
    refine ⟨⟨?_, ?_⟩, ⟨?_, ?_⟩, ⟨?_, ?_⟩, s32_flags_of_range (by omega), ?_, ?_, ?_⟩
    · rw [Bool.eq_iff_iff, decide_eq_true_iff]; unfold Pres.pS Pres.pR; rw [s32_above_iff, asr_eq]; exact square_above_iff _
    · rw [Bool.eq_false_iff]; intro h; unfold Pres.pS at h; rw [s32_below_iff] at h; nlinarith [mul_self_nonneg (Pres.pR p0)]
    · rw [Bool.eq_iff_iff, decide_eq_true_iff]; unfold Pres.pT; rw [s32_above_iff, Pres.pS_val]; omega
    · unfold Pres.pT; rw [Pres.pS_val]; rfl
    · rw [Bool.eq_iff_iff, decide_eq_true_iff]; unfold Pres.pY; rw [s32_above_iff]; omega
    · rw [Bool.eq_iff_iff, decide_eq_true_iff]; unfold Pres.pY; rw [s32_below_iff]; omega
    · unfold Pres.pZ2; rw [Pres.pZ1_val]; exact s32_flags_of_range (by omega)
    · unfold Pres.pP; rw [Pres.corrected_eq]; rfl
    · unfold Pres.pP; rw [Pres.corrected_eq]; rfl
  have kk := key _ hp0
  rw [← Pres.p0_val] at kk
  simp [Status.recordRange, Pres.afterCheck, Pres.correctionStages, Wrapped.ovfAfter, Wrapped.unfAfter, q1, q2, kk, Bool.or_assoc]
  simp [Pres.p0_val]

end Sys2Proof.Machine
end

