-- ==== Sys2Proof/Laws/Temperature.lean ====
section
/-! SUPPORT. What each stage of TEMP computes, in terms of the reference forms, with its range
(spec/42_temperature.md R191 to R200), and what the stages record in the flags. -/

namespace Sys2Proof.Machine

variable (c : Coefficients) (ut : Half)

/-- Stage T1 is exact (R191, R200). -/
theorem Temp.tD_val :
    (Temp.tD c ut).val = ut.toInt - c.ac6.toNat ∧ -98303 ≤ ut.toInt - (c.ac6.toNat:Int) ∧
    ut.toInt - (c.ac6.toNat:Int) ≤ 32767 := by
  have h1 := sext16_range ut; have h2 := zext16_range c.ac6
  unfold sext16 at h1; unfold zext16 at h2
  refine ⟨?_, by omega, by omega⟩
  exact s32_val_of_range (by unfold sext16 zext16; omega)

/-- The bounds of the exact product of stage T2 (R200). -/
theorem product_bounds (a b : Int) (ha : -98303 ≤ a ∧ a ≤ 32767) (hb : 0 ≤ b ∧ b ≤ 65535) :
    -6442287105 ≤ a*b ∧ a*b ≤ 2147385345 := by
  constructor <;> nlinarith

/-- Stage T2 wraps the exact product (R192). -/
theorem Temp.tM_val : (Temp.tM c ut).val = Int.bmod (Wrapped.product c ut) (2^32) := by
  unfold Temp.tM Wrapped.product
  rw [(Temp.tD_val c ut).1]; rfl

/-- Stage T3, band1's X1 (R193). -/
theorem Temp.tX1_val : Temp.tX1 c ut = Wrapped.x1 c ut := by
  unfold Temp.tX1 Wrapped.x1; rw [asr_eq, Temp.tM_val]

/-- The range of band1's X1 (R200). -/
theorem Wrapped.x1_range : -65536 ≤ Wrapped.x1 c ut ∧ Wrapped.x1 c ut ≤ 65535 := by
  have h := wrapS32_range (Wrapped.product c ut)
  unfold wrapS32 at h
  unfold Wrapped.x1
  constructor <;> omega

/-- Stage T4 is exact (R194, R200). -/
theorem Temp.tN_val :
    (Temp.tN c).val = c.mc.toInt * 2048 ∧ -67108864 ≤ c.mc.toInt * 2048 ∧
    c.mc.toInt*2048 ≤ 67106816 := by
  have h1 := sext16_range c.mc; unfold sext16 at h1
  refine ⟨?_, by omega, by omega⟩
  exact s32_val_of_range (by unfold sext16; omega)

/-- Stage T5, the divisor, is exact (R195, R200). -/
theorem Temp.tS_val :
    (Temp.tS c ut).val = Wrapped.divisor c ut ∧ -98304 ≤ Wrapped.divisor c ut ∧
    Wrapped.divisor c ut ≤ 98302 := by
  have h := Wrapped.x1_range c ut
  have h1 := sext16_range c.md; unfold sext16 at h1
  have hr : -98304 ≤ Wrapped.divisor c ut ∧ Wrapped.divisor c ut ≤ 98302 := by unfold Wrapped.divisor; omega
  refine ⟨?_, hr⟩
  unfold Temp.tS; rw [Temp.tX1_val]
  exact s32_val_of_range (by unfold sext16; unfold Wrapped.divisor at hr; omega)

/-- Stage T6 with a divisor other than 0 (R196, R200). -/
theorem Temp.tX2_val (h0 : Wrapped.divisor c ut ≠ 0) :
    (Temp.tX2 c ut).val = Int.fdiv (c.mc.toInt * 2048) (Wrapped.divisor c ut) ∧
    -67108864 ≤ Int.fdiv (c.mc.toInt * 2048) (Wrapped.divisor c ut) ∧
    Int.fdiv (c.mc.toInt * 2048) (Wrapped.divisor c ut) ≤ 67108864 := by
  obtain ⟨e, h1, h2⟩ := Temp.tN_val c
  have := fdiv_abs_le (m := 67108864) (a := c.mc.toInt*2048) (b := Wrapped.divisor c ut) (by omega) h0
  refine ⟨?_, this⟩
  unfold Temp.tX2; rw [e, (Temp.tS_val c ut).1]
  exact s32_val_of_range (by unfold fdiv at *; omega)

/-- Stage T7 with a divisor other than 0 (R197, R200). -/
theorem Temp.tB5_val (h0 : Wrapped.divisor c ut ≠ 0) :
    (Temp.tB5 c ut).val = Wrapped.b5 c ut ∧ -67174400 ≤ Wrapped.b5 c ut ∧
    Wrapped.b5 c ut ≤ 67174399 := by
  obtain ⟨e, h1, h2⟩ := Temp.tX2_val c ut h0
  have h := Wrapped.x1_range c ut
  have hr : -67174400 ≤ Wrapped.b5 c ut ∧ Wrapped.b5 c ut ≤ 67174399 := by unfold Wrapped.b5; omega
  refine ⟨?_, hr⟩
  unfold Temp.tB5; rw [e, Temp.tX1_val]
  exact s32_val_of_range (by unfold Wrapped.b5 at hr; omega)

/-- Stage T8, the sum (R198). -/
theorem Temp.tA_val (h0 : Wrapped.divisor c ut ≠ 0) : (Temp.tA c ut).val = Wrapped.b5 c ut + 8 := by
  obtain ⟨e, h1, h2⟩ := Temp.tB5_val c ut h0
  unfold Temp.tA; rw [e]
  exact s32_val_of_range (by omega)

/-- Stage T8, the shift (R198). -/
theorem Temp.tT_val (h0 : Wrapped.divisor c ut ≠ 0) : Temp.tT c ut = (Wrapped.b5 c ut + 8)/16 := by
  unfold Temp.tT; rw [asr_eq, Temp.tA_val c ut h0]; norm_num

/-- Stage T2 can set UNF only (R192). -/
theorem Temp.tM_flags :
    (Temp.tM c ut).above = false ∧
    (Temp.tM c ut).below = decide (Wrapped.product c ut < -2147483648) := by
  have hd := Temp.tD_val c ut
  have h2 := zext16_range c.ac5; unfold zext16 at h2
  have hp := product_bounds _ _ ⟨hd.2.1, hd.2.2⟩ h2
  unfold Temp.tM Wrapped.product
  rw [hd.1]
  constructor
  · rw [Bool.eq_false_iff]; intro h; rw [s32_above_iff] at h; unfold zext16 at h; omega
  · rw [Bool.eq_iff_iff, s32_below_iff, decide_eq_true_iff]; rfl

/-- The other stages before the check set no flag (R200). -/
theorem Temp.beforeCheck_clean :
    ∀ x ∈ [Temp.tD c ut, Temp.tN c, Temp.tS c ut], x.above = false ∧ x.below = false := by
  have hd := Temp.tD_val c ut; have hn := Temp.tN_val c; have hs := Temp.tS_val c ut
  intro x hx
  simp only [List.mem_cons, List.not_mem_nil, or_false] at hx
  rcases hx with rfl | rfl | rfl
  · exact s32_flags_of_range (by unfold sext16 zext16; omega)
  · exact s32_flags_of_range (by unfold sext16; omega)
  · unfold Temp.tS; rw [Temp.tX1_val]; exact s32_flags_of_range (by unfold sext16; unfold Wrapped.divisor at hs; omega)

/-- The stages after the check set no flag (R200). -/
theorem Temp.afterCheck_clean_of_divisor (h0 : Wrapped.divisor c ut ≠ 0) :
    ∀ x ∈ Temp.afterCheck c ut, x.above = false ∧ x.below = false := by
  have hx2 := Temp.tX2_val c ut h0; have hb := Temp.tB5_val c ut h0; have h := Wrapped.x1_range c ut
  intro x hx
  simp only [Temp.afterCheck, List.mem_cons, List.not_mem_nil, or_false] at hx
  rcases hx with rfl | rfl | rfl
  · unfold Temp.tX2; rw [(Temp.tN_val c).1, (Temp.tS_val c ut).1]; exact s32_flags_of_range (by unfold fdiv; omega)
  · unfold Temp.tB5; rw [hx2.1, Temp.tX1_val]; exact s32_flags_of_range (by omega)
  · unfold Temp.tA; rw [hb.1]; exact s32_flags_of_range (by omega)

/-- So too where the check fails and their values are not used. -/
theorem Temp.afterCheck_clean : ∀ x ∈ Temp.afterCheck c ut, x.above = false ∧ x.below = false := by
  by_cases h0 : Wrapped.divisor c ut = 0
  · have h := Wrapped.x1_range c ut
    have e2 : (Temp.tX2 c ut).val = 0 := by unfold Temp.tX2; rw [(Temp.tS_val c ut).1, h0]; simp [fdiv, s32, wrapS32]
    have e3 : (Temp.tB5 c ut).val = Wrapped.x1 c ut := by unfold Temp.tB5; rw [e2, Temp.tX1_val, add_zero]; exact s32_val_of_range (by omega)
    intro x hx
    simp only [Temp.afterCheck, List.mem_cons, List.not_mem_nil, or_false] at hx
    rcases hx with rfl | rfl | rfl
    · unfold Temp.tX2; rw [(Temp.tS_val c ut).1, h0]; simp [fdiv, s32]
    · unfold Temp.tB5; rw [e2, Temp.tX1_val]; exact s32_flags_of_range (by omega)
    · unfold Temp.tA; rw [e3]; exact s32_flags_of_range (by omega)
  · exact Temp.afterCheck_clean_of_divisor c ut h0

/-- What stages T1 to T5 record. -/
theorem Status.recordRange_tempBefore (f : Status) :
    f.recordRange (Temp.beforeCheck c ut) =
      { f with unf := f.unf || decide (Wrapped.product c ut < -2147483648) } := by
  have h1 := Temp.beforeCheck_clean c ut
  have h2 := Temp.tM_flags c ut
  have hD := h1 (Temp.tD c ut) (by simp); have hN := h1 (Temp.tN c) (by simp); have hS := h1 (Temp.tS c ut) (by simp)
  simp [Status.recordRange, Temp.beforeCheck, h2, hD, hN, hS]

end Sys2Proof.Machine
end

