-- ==== Sys2Proof/Machine/AsmText.lean ====
section
/-! DEFINITION. The text of a listing (spec/30_encoding.md R100): one request per line, `;` starts a comment,
mnemonics and register names in upper case, numbers decimal (optionally signed) or `0x` hexadecimal with
underscores as digit separators (spec/00_scope.md section 5.1). A line is a list of characters. -/

namespace Sys2Proof.Machine

/-- R100: the line up to its comment. -/
def stripComment (cs : List Char) : List Char := cs.takeWhile (fun c => c != ';')

/-- A finished token in front of the tokens after it. -/
def pushToken (token : List Char) (rest : List (List Char)) : List (List Char) :=
  if token.isEmpty then rest else token.reverse :: rest

/-- The tokens of a line: words between blanks, and each comma; `token` is the open word, last character
first. -/
def tokenize : List Char → List Char → List (List Char)
  | [], token => pushToken token []
  | c :: cs, token =>
    if c = ' ' ∨ c = '\t' then pushToken token (tokenize cs [])
    else if c = ',' then pushToken token ([','] :: tokenize cs [])
    else tokenize cs (c :: token)

/-- The value of a digit in the given base. -/
def digitValue (base : Nat) (c : Char) : Option Nat :=
  let n := c.toNat
  let d := if 48 ≤ n ∧ n ≤ 57 then n - 48
    else if 65 ≤ n ∧ n ≤ 70 then n - 55
    else if 97 ≤ n ∧ n ≤ 102 then n - 87
    else base
  if d < base then some d else none

/-- The number a digit string denotes; an underscore separates digits. -/
def parseDigits (base : Nat) : List Char → Nat → Option Nat
  | [], acc => some acc
  | '_' :: cs, acc => parseDigits base cs acc
  | c :: cs, acc =>
    match digitValue base c with
    | some d => parseDigits base cs (acc * base + d)
    | none => none

/-- An unsigned number: decimal, or hexadecimal after `0x`; it begins with a digit. -/
def parseNat : List Char → Option Nat
  | '0' :: 'x' :: c :: cs => if c = '_' then none else parseDigits 16 (c :: cs) 0
  | c :: cs => if c = '_' then none else parseDigits 10 (c :: cs) 0
  | [] => none

/-- A decimal number, optionally signed, or a hexadecimal one. -/
def parseInt : List Char → Option Int
  | '-' :: '0' :: 'x' :: _ => none
  | '+' :: '0' :: 'x' :: _ => none
  | '-' :: cs => (parseNat cs).map (fun n => -(n : Int))
  | '+' :: cs => (parseNat cs).map (fun n => (n : Int))
  | cs => (parseNat cs).map (fun n => (n : Int))

/-- The register names of R20. -/
def regName : List Char → Option Reg
  | ['A', 'C', '1'] => some .ac1
  | ['A', 'C', '2'] => some .ac2
  | ['A', 'C', '3'] => some .ac3
  | ['A', 'C', '4'] => some .ac4
  | ['A', 'C', '5'] => some .ac5
  | ['A', 'C', '6'] => some .ac6
  | ['B', '1'] => some .b1
  | ['B', '2'] => some .b2
  | ['M', 'B'] => some .mb
  | ['M', 'C'] => some .mc
  | ['M', 'D'] => some .md
  | ['U', 'T'] => some .ut
  | ['U', 'P'] => some .up
  | ['B', '5'] => some .b5
  | ['T'] => some .t
  | ['P'] => some .p
  | ['C', 'M', 'D'] => some .cmd
  | ['S', 'T', 'A', 'T', 'U', 'S'] => some .status
  | _ => none

/-- A register operand: a name of R20 or a number (R100). DESIGN CHOICE: the number takes no sign, though R100
lets a decimal number have one; the spec leaves open whether a register may (log entry 13). -/
def parseReg (cs : List Char) : Option Nat :=
  match regName cs with
  | some r => some (Reg.index r).toNat
  | none => parseNat cs

/-- A list of integers with a comma between each two. -/
def parseValues : List (List Char) → Option (List Int)
  | [] => none
  | [v] => (parseInt v).map (fun n => [n])
  | v :: [','] :: rest =>
    match parseInt v, parseValues rest with
    | some n, some ns => some (n :: ns)
    | _, _ => none
  | _ => none

/-- The eleven operands of LDCAL. -/
def calValues : List Int → Option CalValues
  | [a1, a2, a3, a4, a5, a6, b1, b2, mb, mc, md] => some ⟨a1, a2, a3, a4, a5, a6, b1, b2, mb, mc, md⟩
  | _ => none

/-- The item of a tokenized line (R100, R101). -/
def parseTokens : List (List Char) → Option AsmItem
  | [['N', 'O', 'P']] => some (.line .nop)
  | [['T', 'E', 'M', 'P']] => some (.line .temp)
  | [['P', 'R', 'E', 'S']] => some (.line .pres)
  | [['C', 'L', 'R']] => some (.line .clr)
  | [['R', 'D', 'A', 'L', 'L']] => some .rdall
  | [['R', 'D'], reg] => (parseReg reg).map (fun r => .line (.rd r))
  | [['W', 'R'], reg, [','], value] =>
    match parseReg reg, parseInt value with
    | some r, some v => some (.line (.wr r v))
    | _, _ => none
  | [['C', 'O', 'N', 'V', 'T'], ut] => (parseInt ut).map .convt
  | [['C', 'O', 'N', 'V', 'P'], up] => (parseInt up).map .convp
  | [['C', 'O', 'N', 'V'], ut, [','], up] =>
    match parseInt ut, parseInt up with
    | some t, some p => some (.conv t p)
    | _, _ => none
  | ['L', 'D', 'C', 'A', 'L'] :: rest =>
    match parseValues rest with
    | some vs => (calValues vs).map .ldcal
    | none => none
  | _ => none

/-- One line of a listing: nothing for a blank or comment line, else its item; `none` where the line is
not of the syntax of R100. -/
def parseLine (cs : List Char) : Option (List AsmItem) :=
  match tokenize (stripComment cs) [] with
  | [] => some []
  | ts => (parseTokens ts).map (fun a => [a])

/-- A listing, line by line. -/
def parseListing : List (List Char) → Option (List AsmItem)
  | [] => some []
  | l :: ls =>
    match parseLine l, parseListing ls with
    | some a, some rest => some (a ++ rest)
    | _, _ => none

end Sys2Proof.Machine
end

