-- ==== Sys2Proof/Tests/Slice0.lean ====
section
/-! SUPPORT. The model's own tests. Expected values are the spec's: the match column of
spec/30_encoding.md R96 and the vectors of spec/95_test_vectors.md, named by their V number. The last
part has, for every obligation with hypotheses, a theorem that a concrete input meets them. -/

namespace Sys2Proof.Tests

open Sys2Proof Sys2Proof.Machine

/-! ## Helpers -/

/-- Whether the outcome is a next state with the property. -/
def nextWith (o : Host.Outcome State Fault Refusal) (p : State → Bool) : Bool :=
  match o with
  | .next s => p s
  | .fault _ => false
  | .refused _ => false

theorem exists_next {o : Host.Outcome State Fault Refusal} {p : State → Bool}
    (h : nextWith o p = true) : ∃ s, o = .next s ∧ p s = true := by
  cases o with
  | next s => exact ⟨s, rfl, h⟩
  | fault r => cases h
  | refused r => cases h

/-- The coefficient set K of the vectors (V1). -/
def calK : Coefficients :=
  { ac1 := 408#16, ac2 := BitVec.ofInt 16 (-72), ac3 := BitVec.ofInt 16 (-14383), ac4 := 32741#16,
    ac5 := 32757#16, ac6 := 23153#16, b1 := 6190#16, b2 := 4#16, mb := BitVec.ofInt 16 (-32768),
    mc := BitVec.ofInt 16 (-8711), md := 2868#16 }

/-- Right after reset, but with these coefficients and raw temperature. -/
def tempState (c : Coefficients) (ut : Int) : State :=
  { State.reset with cal := c, ut := BitVec.ofInt 16 ut }

/-- Right after reset, but with these coefficients, B5 and raw pressure. -/
def presState (c : Coefficients) (b5 up : Int) : State :=
  { State.reset with cal := c, b5 := BitVec.ofInt 32 b5, up := BitVec.ofInt 32 up }

/-- Right after reset, but with the flags of the pattern. -/
def flagState (tv pv terr perr b7hi ovf unf ill : Bool) : State :=
  { State.reset with status := { tv, pv, terr, perr, b7hi, ovf, unf, ill } }

/-- The state with one request offered. -/
def offered (w : Request) (s : State) : State := s.withPort [.request w]

/-! ## Well-formedness (R100): each check refuses an ill-formed line -/

/-- An instruction has no ill-formed operand; the checks that can fail are an assembler line's. -/
theorem test_wellformed_operands : Instr.WellFormed (.wrAc1 0xFFFFFFFF#32) := by decide

theorem test_register_128_refused :
    (AsmLine.rd 128).wf = false ∧ (AsmLine.wr 128 0).wf = false ∧ (AsmLine.rd 127).wf = true := by
  decide

theorem test_value_out_of_range_refused :
    (AsmLine.wr 0 (2 ^ 32)).wf = false ∧ (AsmLine.wr 0 (-2 ^ 31 - 1)).wf = false ∧
    (AsmLine.wr 0 (2 ^ 32 - 1)).wf = true ∧ (AsmLine.wr 0 (-2 ^ 31)).wf = true := by
  decide

theorem test_ill_formed_listing_refused : assemble [.convt (2 ^ 32)] = none := by decide

/-! ## Decoding: one word per row, written out from R96 -/

theorem test_decode_reads_0_to_8 :
    decode 0x0000000000#40 = .ok .rdAc1 ∧ decode 0x0100000000#40 = .ok .rdAc2 ∧
    decode 0x0200000000#40 = .ok .rdAc3 ∧ decode 0x0300000000#40 = .ok .rdAc4 ∧
    decode 0x0400000000#40 = .ok .rdAc5 ∧ decode 0x0500000000#40 = .ok .rdAc6 ∧
    decode 0x0600000000#40 = .ok .rdB1 ∧ decode 0x0700000000#40 = .ok .rdB2 ∧
    decode 0x0800000000#40 = .ok .rdMb := by decide

theorem test_decode_reads_9_to_17 :
    decode 0x0900000000#40 = .ok .rdMc ∧ decode 0x0A00000000#40 = .ok .rdMd ∧
    decode 0x0B00000000#40 = .ok .rdUt ∧ decode 0x0C00000000#40 = .ok .rdUp ∧
    decode 0x0D00000000#40 = .ok .rdB5 ∧ decode 0x0E00000000#40 = .ok .rdT ∧
    decode 0x0F00000000#40 = .ok .rdP ∧ decode 0x1000000000#40 = .ok .rdCmd ∧
    decode 0x1100000000#40 = .ok .rdStatus := by decide

/-- The words of PROG1, requests 1 to 7. -/
theorem test_decode_writes_0_to_6 :
    decode 0x8000000198#40 = .ok (.wrAc1 0x198#32) ∧
    decode 0x81FFFFFFB8#40 = .ok (.wrAc2 0xFFFFFFB8#32) ∧
    decode 0x82FFFFC7D1#40 = .ok (.wrAc3 0xFFFFC7D1#32) ∧
    decode 0x8300007FE5#40 = .ok (.wrAc4 0x7FE5#32) ∧
    decode 0x8400007FF5#40 = .ok (.wrAc5 0x7FF5#32) ∧
    decode 0x8500005A71#40 = .ok (.wrAc6 0x5A71#32) ∧
    decode 0x860000182E#40 = .ok (.wrB1 0x182E#32) := by decide

/-- The words of PROG1, requests 8 to 12, of V16 for UP and of PROG3 for B5. -/
theorem test_decode_writes_7_to_13 :
    decode 0x8700000004#40 = .ok (.wrB2 4#32) ∧
    decode 0x88FFFF8000#40 = .ok (.wrMb 0xFFFF8000#32) ∧
    decode 0x89FFFFDDF9#40 = .ok (.wrMc 0xFFFFDDF9#32) ∧
    decode 0x8A00000B34#40 = .ok (.wrMd 0xB34#32) ∧
    decode 0x8B00006CFA#40 = .ok (.wrUt 0x6CFA#32) ∧
    decode 0x8C00005D23#40 = .ok (.wrUp 0x5D23#32) ∧
    decode 0x8D0000095F#40 = .ok (.wrB5 0x95F#32) := by decide

/-- DATA[31:8] of a command is ignored (V17, V18). -/
theorem test_decode_commands :
    decode 0x9000000000#40 = .ok .nop ∧ decode 0x90ABCDEF00#40 = .ok .nop ∧
    decode 0x9000000001#40 = .ok .temp ∧ decode 0x9000000101#40 = .ok .temp ∧
    decode 0x9000000002#40 = .ok .pres ∧ decode 0x90FFFFFF03#40 = .ok .clr := by decide

/-- The reserved words of V18, each rejected by the name of its part. -/
theorem test_decode_reserved :
    decode 0x1200000000#40 = .error (.readIndex 18#7) ∧
    decode 0x7F00000000#40 = .error (.readIndex 127#7) ∧
    decode 0x8E000004D2#40 = .error (.writeReadOnly 14#7) ∧
    decode 0x8F00000001#40 = .error (.writeReadOnly 15#7) ∧
    decode 0x91000000FF#40 = .error (.writeReadOnly 17#7) ∧
    decode 0x9200000000#40 = .error (.writeIndex 18#7) ∧
    decode 0xFF00000005#40 = .error (.writeIndex 127#7) ∧
    decode 0x9000000004#40 = .error (.commandCode 4#8) ∧
    decode 0x90000000FF#40 = .error (.commandCode 255#8) := by decide

/-- The host's two entries. -/
theorem test_decodeTableWord :
    decodeTableWord 40 0x9000000001 = some .temp ∧ decodeTableWord 40 0x900000002E = none ∧
    decodeTableWord 40 0x8000000198 = some (.wrAc1 0x198#32) := by decide

theorem test_step_runs_the_fetch_word :
    nextWith (step (State.reset.withFetchWord 40 0x8B00006CFA))
      (fun s => s == { State.reset with ut := 27898#16 }) = true := by
  decide

/-! ## Reads (V11) and writes (V16) -/

theorem test_read_extends :
    nextWith (exec .rdMb { State.reset with cal := calK })
      (fun s => s.responses == [0xFFFF8000#32]) = true ∧
    nextWith (exec .rdAc4 { State.reset with cal := { calK with ac4 := 0xFFFF#16 } })
      (fun s => s.responses == [0x0000FFFF#32]) = true := by
  decide

theorem test_read_status :
    nextWith (exec .rdStatus (flagState true true false false false false false false))
      (fun s => s.responses == [3#32]) = true ∧
    nextWith (exec .rdStatus (flagState false false true false false true true true))
      (fun s => s.responses == [0xE4#32]) = true := by
  decide

theorem test_write_truncates :
    nextWith (exec (.wrAc4 0x12347FE5#32) State.reset) (fun s => s.cal.ac4 == 32741#16) = true ∧
    nextWith (exec (.wrAc1 0x1FFFF#32) State.reset)
      (fun s => readReg .ac1 s == 0xFFFFFFFF#32) = true := by
  decide

/-- V16: WR B5 clears TV though the value is the same; WR MD does not. -/
theorem test_write_b5_clears_tv :
    nextWith (exec (.wrB5 2399#32) (flagState true false false false false false false false))
      (fun s => s.b5 == 2399#32 && s.status == Status.zero) = true ∧
    nextWith (exec (.wrMd 2868#32) (flagState true false false false false false false false))
      (fun s => s.cal.md == 2868#16 && s.status.tv) = true := by
  decide

/-! ## NOP, CLR (V17) and the reserved requests (V18) -/

theorem test_clr :
    nextWith (exec .clr (flagState true true true true true true true true))
      (fun s => s.status.toWord == 0x13#32) = true ∧
    nextWith (exec .clr { flagState false false true false false false false false with t := 7#32 })
      (fun s => s.status.toWord == 0#32 && s.t == 7#32) = true := by
  decide

theorem test_nop_changes_nothing : exec .nop (presState calK 1 2) = .next (presState calK 1 2) := rfl

theorem test_reserved :
    nextWith (performRequest 0x1200000000#40 State.reset)
      (fun s => s.status.toWord == 0x80#32 && s.responses == [0#32]) = true ∧
    nextWith (performRequest 0x8E000004D2#40 State.reset)
      (fun s => s.status.toWord == 0x80#32 && s.responses == [] && s.t == 0#32) = true ∧
    nextWith (performRequest 0x900000002E#40 State.reset)
      (fun s => s.status.toWord == 0x80#32 && s.responses == []) = true := by
  decide

/-! ## TEMP (V1, V8, V19) -/

/-- V1: B5 = 2399, T = 150, STATUS 0x01. -/
theorem test_temp_known_vector :
    nextWith (exec .temp (tempState calK 27898))
      (fun s => s.b5 == 2399#32 && s.t == 150#32 && s.status.toWord == 1#32) = true := by
  decide

/-- V19, the row whose product leaves the range: STATUS 0x41. -/
theorem test_temp_underflow :
    nextWith (exec .temp (tempState { calK with ac5 := 65535#16, ac6 := 65535#16, mc := 0x8000#16, md := 32767#16 } (-32768)))
      (fun s => s.b5.toInt == -63484 && s.t.toInt == -3968 && s.status.toWord == 0x41#32) = true := by
  decide

/-- V8 (a): the divisor 0. -/
theorem test_temp_error :
    nextWith (exec .temp (tempState { calK with md := BitVec.ofInt 16 (-4743) } 27898))
      (fun s => s.b5 == 0#32 && s.t == 0#32 && s.status.toWord == 4#32) = true := by
  decide

/-! ## PRES (V3, V7, V8, V24, V26) -/

/-- V3: P = 69964, STATUS 0x02. -/
theorem test_pres_known_vector :
    nextWith (exec .pres (presState calK 2399 23843))
      (fun s => s.p == 69964#32 && s.status.toWord == 2#32) = true := by
  decide

/-- V7: the two sides of the branch. -/
theorem test_pres_branch :
    nextWith (exec .pres (presState calK 2399 43371))
      (fun s => s.p == 128433#32 && s.status.toWord == 2#32) = true ∧
    nextWith (exec .pres (presState calK 2399 43372))
      (fun s => s.p == 128435#32 && s.status.toWord == 0x12#32) = true := by
  decide

/-- V8 (b), (c): B4 = 0 through either factor. -/
theorem test_pres_error :
    nextWith (exec .pres (presState { calK with ac4 := 0#16 } 2399 23843))
      (fun s => s.p == 0#32 && s.status.toWord == 8#32) = true ∧
    nextWith (exec .pres (presState { calK with ac3 := 0x8000#16, b1 := 0#16 } 36768 23843))
      (fun s => s.p == 0#32 && s.status.toWord == 8#32) = true := by
  decide

/-- V24 and V26: the unsigned underflow, and the quotient beyond s32. -/
theorem test_pres_flags :
    nextWith (exec .pres (presState calK 2399 421))
      (fun s => s.p == 253990#32 && s.status.toWord == 0x72#32) = true ∧
    nextWith (exec .pres (presState { calK with ac4 := 1#16 } 4000 23843))
      (fun s => s.p == 0x8BAEEF39#32 && s.status.toWord == 0x62#32) = true := by
  decide

/-! ## Arithmetic (V12 to V14, R123 to R127) -/

theorem test_stage_results :
    s32 (2147483647 + 8) = { val := -2147483641, above := true, below := false } ∧
    u32 (100 - 422) = { val := 4294966974, above := false, below := true } ∧
    u32 (65535 * 65538) = { val := 65534, above := true, below := false } := by
  decide

theorem test_shift_and_division :
    asr (-614) 4 = -39 ∧ lsr 1096332385 15 = 33457 ∧ fdiv (-17840128) 7611 = -2344 ∧
    fdiv 7 (-2) = -4 ∧ udiv 2342100000 33457 = 70003 := by
  decide

/-! ## The assembler's text (R100, R101) -/

/-- V16 and R97: a signed operand, a register by number, a comment, a reserved command. -/
theorem test_assemble_lines :
    ((parseListing ["WR AC3, -14383 ; a coefficient".toList, "RD 127".toList, "; nothing".toList,
        "WR CMD, 0x2E".toList]).bind assemble)
      = some [0x82FFFFC7D1#40, 0x7F00000000#40, 0x900000002E#40] := by
  decide

/-- R101: CONV is WR UT, TEMP, WR UP, PRES. -/
theorem test_assemble_conv :
    ((parseListing ["CONV 27898, 23843".toList]).bind assemble)
      = some [0x8B00006CFA#40, 0x9000000001#40, 0x8C00005D23#40, 0x9000000002#40] := by
  decide

/-! ## Witnesses: an input that meets the hypotheses of each obligation -/

theorem test_witness_DecodeUndoesEncode : Instr.WellFormed (.wrB5 0x80000000#32) := by decide

theorem test_witness_RowsAreDisjoint :
    0x8000000005#40 &&& (Instr.wrAc1 0#32).opMask = (Instr.wrAc1 0#32).opMatch ∧
    0x8000000005#40 &&& (Instr.wrAc1 7#32).opMask = (Instr.wrAc1 7#32).opMatch := by decide

/-- The last index of each clause, and data that differ in the ignored bits. -/
theorem test_witness_IgnoredBitsChangeNothing :
    (0xABCDEF01#32).toNat % 256 = (1#32).toNat % 256 ∧ (11#7 : RegIndex).toNat < 12 ∧
    (0x12347FE5#32).toNat % 65536 = (0x7FE5#32).toNat % 65536 := by decide

/-- Indices at the ends of each clause's range. -/
theorem test_witness_ReadAfterWrite :
    (13#7 : RegIndex).toNat ≤ 13 ∧ (0#7 : RegIndex).toNat ≤ 13 ∧
    (3 ≤ (3#7 : RegIndex).toNat ∧ (3#7 : RegIndex).toNat ≤ 5) ∧
    (3 ≤ (5#7 : RegIndex).toNat ∧ (5#7 : RegIndex).toNat ≤ 5) ∧ (2#7 : RegIndex).toNat < 3 ∧
    (5 < (6#7 : RegIndex).toNat ∧ (11#7 : RegIndex).toNat < 12) ∧ 12 ≤ (12#7 : RegIndex).toNat ∧
    (127#7 : RegIndex) ≠ 0#7 ∧ (127#7 : RegIndex) ≠ 17#7 := by decide

theorem test_witness_NopChangesNothing :
    (0x90ABCDEF00#40).toNat / 2 ^ 32 = 0x90 ∧ (0x90ABCDEF00#40).toNat % 256 = 0 := by decide

theorem test_witness_ClrClearsFiveFlags :
    (0x90FFFFFF03#40).toNat / 2 ^ 32 = 0x90 ∧ (0x90FFFFFF03#40).toNat % 256 = 3 ∧
    ∃ s', exec .clr (flagState true true true true true true true true) = .next s' ∧
      (s'.status.toWord == 0x13#32) = true := ⟨by decide, by decide, exists_next (by decide)⟩

/-- Both ends of each part; and ILL cleared by CLR. -/
theorem test_witness_ReservedRequestSetsIll :
    18 ≤ (0x1200000000#40).toNat / 2 ^ 32 % 128 ∧ (0x1200000000#40).toNat / 2 ^ 39 = 0 ∧
    18 ≤ (0xFF00000005#40).toNat / 2 ^ 32 % 128 ∧ (0x8E000004D2#40).toNat / 2 ^ 32 % 128 = 14 ∧
    (0x8F00000001#40).toNat / 2 ^ 32 % 128 = 15 ∧ (0x91000000FF#40).toNat / 2 ^ 32 % 128 = 17 ∧
    ((0x9000000004#40).toNat / 2 ^ 39 = 1 ∧ (0x9000000004#40).toNat / 2 ^ 32 % 128 = 16 ∧
      4 ≤ (0x9000000004#40).toNat % 256) ∧
    (∃ s', step (offered 0x9000000003#40 (flagState false false false false false false false true))
      = .next s' ∧ (!s'.status.ill) = true) :=
  ⟨by decide, by decide, by decide, by decide, by decide, by decide, by decide, exists_next (by decide)⟩

/-- V1 and V19: the divisors 7611, 1 and −1. -/
theorem test_witness_TempCommitsBothResults :
    Wrapped.divisor calK 27898#16 ≠ 0 ∧
    Wrapped.divisor { calK with md := BitVec.ofInt 16 (-4742) } 27898#16 = 1 ∧
    Wrapped.divisor { calK with md := BitVec.ofInt 16 (-4744) } 27898#16 = -1 := by
  decide

/-- V8 (a), and a TEMP that leaves TERR set. -/
theorem test_witness_TempRaisesCalibrationError :
    Wrapped.divisor { calK with md := BitVec.ofInt 16 (-4743) } 27898#16 = 0 ∧
    ∃ s', exec .temp State.reset = .next s' ∧ s'.status.terr = true :=
  ⟨by decide, exists_next (by decide)⟩

/-- V1 for the clause of the later stages; V19 for the product below the range. -/
theorem test_witness_TempStageRanges :
    (Temp.tS calK 27898#16).val ≠ 0 ∧
    (Temp.tM { calK with ac5 := 65535#16, ac6 := 1#16 } 0x8000#16).below = true := by
  decide

/-- A TEMP that commits and one that raises, both from a state with UNF set. -/
theorem test_witness_TempFrame :
    (∃ s', exec .temp { tempState calK 27898 with
        status := { Status.zero with unf := true } } = .next s' ∧ s'.status.tv = true) ∧
    (∃ s', exec .temp (flagState false false false false false false true false) = .next s' ∧
        s'.status.terr = true) :=
  ⟨exists_next (by decide), exists_next (by decide)⟩

/-- Two states that differ in B5 and UP (V9). -/
theorem test_witness_TempIsPure :
    (tempState calK 27898).ut = { tempState calK 27898 with b5 := 12345#32, up := 7#32 }.ut ∧
    (∃ s', exec .temp (tempState calK 27898) = .next s' ∧ s'.status.tv = true) ∧
    (∃ s', exec .temp { tempState calK 27898 with b5 := 12345#32, up := 7#32 } = .next s' ∧
      (s'.b5 == 2399#32) = true) :=
  ⟨rfl, exists_next (by decide), exists_next (by decide)⟩

theorem test_witness_TempAgreesWithBand1 :
    ∃ s', exec .temp (tempState calK 27898) = .next s' ∧ (s'.status.tv && !s'.status.unf) = true :=
  exists_next (by decide)

theorem test_witness_PresCommitsThePressure :
    Wrapped.b4 calK 2399#32 = 33457 ∧ Wrapped.b4 { calK with ac4 := 1#16 } 4000#32 = 1 := by
  decide

theorem test_witness_PresRaisesCalibrationError :
    Wrapped.b4 { calK with ac4 := 0#16 } 2399#32 = 0 ∧
    ∃ s', exec .pres State.reset = .next s' ∧ s'.status.perr = true :=
  ⟨by decide, exists_next (by decide)⟩

theorem test_witness_PresStagesThatCannotFlag :
    -2147483648 ≤ (-2147483648 : Int) ∧ (-2147483648 : Int) ≤ 2147483647 ∧
    Pres.hi calK 2399#32 43371#32 = false := by
  decide

/-- The last and the first value at each boundary: 46341, 85900, 706875, 291896 and B4 = 1 (V24, V25,
R233, R234). -/
theorem test_witness_PresFlagConditions :
    (Pres.pB6 (BitVec.ofInt 32 (-2147479649))).below = true ∧
    (Pres.pB6 (BitVec.ofInt 32 (-2147479648))).below = false ∧
    (Pres.pQ 50340#32).above = false ∧ (Pres.pQ 50341#32).above = true ∧
    (Pres.pU calK 0x7FFFFFFF#32).below = true ∧ (Pres.pD calK 2399#32 422#32).below = false ∧
    (Pres.pD calK 2399#32 421#32).below = true ∧ (Pres.pB7 calK 2399#32 86321#32).above = false ∧
    (Pres.pB7 calK 2399#32 86322#32).above = true ∧
    (Pres.quotientHigh { calK with ac4 := 1#16 } 4000#32 43358#32).above = true ∧
    (Pres.pT 215295).above = false ∧ (Pres.pT 215296).above = true ∧
    (Pres.pY 291896).below = false ∧ (Pres.pY 291897).below = true ∧
    (Pres.pY (-291896)).above = false ∧ (Pres.pY (-291897)).above = true := by
  decide

/-- V7: B7 on the two sides of 0x8000_0000, with the remainder of the high side at least B4 / 2. -/
theorem test_witness_CarryBoundaryBranch :
    Pres.pB4 calK 2399#32 = 33457 ∧ (Pres.pB7 calK 2399#32 43371#32).val = 2147450000 ∧
    (Pres.pB7 calK 2399#32 43372#32).val = 2147500000 ∧ Pres.pQ0 calK 2399#32 43372#32 = 128372 := by
  decide

/-- V25 for a negative `X3 + 32768`, V1 for another; V26 and V3 for the quotient. -/
theorem test_witness_SignedUnsignedCrossings :
    (Pres.pV calK 0x7FFFFFFF#32).val = -30920 ∧ (Pres.pV calK 2399#32).val = 33485 ∧
    Pres.pB4 { calK with ac4 := 1#16 } 4000#32 ≠ 0 ∧
    2147483648 ≤ Pres.pQ0 { calK with ac4 := 1#16 } 4000#32 23843#32 ∧
    Pres.pQ0 calK 2399#32 23843#32 = 70003 := by
  decide

/-- A PRES that commits from sticky flags, and one that raises. -/
theorem test_witness_PresFrame :
    (∃ s', exec .pres { presState calK 2399 23843 with
        status := { Status.zero with ovf := true, unf := true } } = .next s' ∧ s'.status.pv = true) ∧
    (∃ s', exec .pres State.reset = .next s' ∧ s'.status.perr = true) :=
  ⟨exists_next (by decide), exists_next (by decide)⟩

/-- Two states that differ in UT, T and MB. -/
theorem test_witness_PresIsPure :
    (presState calK 2399 23843).b5 = { presState calK 2399 23843 with ut := 5#16, t := 9#32 }.b5 ∧
    (∃ s', exec .pres (presState calK 2399 23843) = .next s' ∧ s'.status.pv = true) ∧
    (∃ s', exec .pres { presState { calK with mb := 0#16 } 2399 23843 with ut := 5#16, t := 9#32 }
      = .next s' ∧ (s'.p == 69964#32) = true) :=
  ⟨rfl, exists_next (by decide), exists_next (by decide)⟩

/-- V3 and V7: one on each branch. -/
theorem test_witness_PresAgreesWithTheVendorFormula :
    (∃ s', exec .pres (presState calK 2399 23843) = .next s' ∧
      (s'.status.pv && !s'.status.ovf && !s'.status.unf && !s'.status.b7hi) = true) ∧
    (∃ s', exec .pres (presState calK 2399 43372) = .next s' ∧
      (s'.status.pv && !s'.status.ovf && !s'.status.unf && s'.status.b7hi) = true) :=
  ⟨exists_next (by decide), exists_next (by decide)⟩

/-- The ends of both ranges. -/
theorem test_witness_StageResultsWrapAndReport :
    (s32 2147483647).val = 2147483647 ∧ (s32 (-2147483648)).val = -2147483648 ∧
    (s32 2147483648).val = -2147483648 ∧ (u32 4294967295).val = 4294967295 ∧ (u32 (-1)).val = 4294967295 := by
  decide

theorem test_witness_DividersRoundDown :
    0 < (1 : Int) ∧ (-1 : Int) < 0 ∧ 0 ≤ (0 : Int) := by decide

theorem test_witness_StepRunsTheDecodedInstruction :
    (offered 0x9000000001#40 State.reset).port = .request 0x9000000001#40 :: [] ∧
    decode 0x9000000001#40 = .ok .temp := ⟨rfl, by decide⟩

theorem test_witness_StepOnReservedWordOrIdle :
    (offered 0x900000002E#40 State.reset).port = .request 0x900000002E#40 :: [] ∧
    decode 0x900000002E#40 = .error (.commandCode 0x2E#8) ∧ State.reset.port = [] :=
  ⟨rfl, by decide, rfl⟩

theorem test_witness_ResetEventZeroesEveryRegister :
    ({ presState calK 1 2 with port := [.reset (some 0x9000000001#40)] } : State).port
      = .reset (some 0x9000000001#40) :: [] := rfl

theorem test_witness_OneResponsePerRead :
    (∃ s', performRequest 0x1100000000#40 State.reset = .next s' ∧ (s'.responses == [0#32]) = true) ∧
    (∃ s', performRequest 0x9000000001#40 State.reset = .next s' ∧ (s'.responses == []) = true) :=
  ⟨exists_next (by decide), exists_next (by decide)⟩

theorem test_witness_FlagsNeverFeedBack :
    ∃ s', exec .pres (presState calK 2399 23843) = .next s' ∧ (s'.p == 69964#32) = true :=
  exists_next (by decide)

/-- CLR on each sticky flag, and reset. -/
theorem test_witness_StickyFlagsAreClearedByClrOrReset :
    (∃ s', step (offered 0x9000000003#40 (flagState false false false false false true true true))
        = .next s' ∧ (!s'.status.ovf && !s'.status.unf && !s'.status.ill) = true) ∧
    (∃ s', step ((flagState false false false false false true true true).withPort [.reset none])
        = .next s' ∧ (!s'.status.ovf && !s'.status.unf && !s'.status.ill) = true) :=
  ⟨exists_next (by decide), exists_next (by decide)⟩

/-- TV and PV set and cleared, and B7HI changed. -/
theorem test_witness_ValidFlagsChangeOnlyAsListed :
    (∃ s', step (offered 0x9000000001#40 (tempState calK 27898)) = .next s' ∧ s'.status.tv = true) ∧
    (∃ s', step (offered 0x8D00000000#40 (flagState true false false false false false false false))
      = .next s' ∧ (!s'.status.tv) = true) ∧
    (∃ s', step (offered 0x9000000001#40 (flagState true false false false false false false false))
      = .next s' ∧ (!s'.status.tv && s'.status.terr) = true) ∧
    (∃ s', step (offered 0x9000000002#40 (presState calK 2399 43372)) = .next s' ∧
      (s'.status.pv && s'.status.b7hi) = true) ∧
    (∃ s', step (offered 0x9000000002#40 (flagState false true false false false false false false))
      = .next s' ∧ (!s'.status.pv) = true) :=
  ⟨exists_next (by decide), exists_next (by decide), exists_next (by decide),
    exists_next (by decide), exists_next (by decide)⟩

/-- TERR and PERR set and cleared. -/
theorem test_witness_ErrorFlagsChangeOnlyAsListed :
    (∃ s', step (offered 0x9000000001#40 State.reset) = .next s' ∧ s'.status.terr = true) ∧
    (∃ s', step (offered 0x9000000001#40 { tempState calK 27898 with
        status := { Status.zero with terr := true } }) = .next s' ∧ (!s'.status.terr) = true) ∧
    (∃ s', step (offered 0x9000000002#40 State.reset) = .next s' ∧ s'.status.perr = true) ∧
    (∃ s', step (offered 0x9000000003#40 (flagState false false true true false false false false))
      = .next s' ∧ (!s'.status.terr && !s'.status.perr) = true) :=
  ⟨exists_next (by decide), exists_next (by decide), exists_next (by decide),
    exists_next (by decide)⟩

/-- A step that changes each register. -/
theorem test_witness_RegistersChangeOnlyByTheirWriters :
    (∃ s', step (offered 0x8A00000B34#40 State.reset) = .next s' ∧
      (s'.cal != State.reset.cal) = true) ∧
    (∃ s', step (offered 0x8B00000001#40 State.reset) = .next s' ∧ (s'.ut != 0#16) = true) ∧
    (∃ s', step (offered 0x8C00000001#40 State.reset) = .next s' ∧ (s'.up != 0#32) = true) ∧
    (∃ s', step (offered 0x9000000001#40 (tempState calK 27898)) = .next s' ∧
      (s'.b5 != 0#32 && s'.t != 0#32) = true) ∧
    (∃ s', step (offered 0x9000000002#40 (presState calK 2399 23843)) = .next s' ∧
      (s'.p != 0#32) = true) :=
  ⟨exists_next (by decide), exists_next (by decide), exists_next (by decide),
    exists_next (by decide), exists_next (by decide)⟩

/-- A state with TV set that has the invariant, and that a step changes. -/
theorem test_witness_EveryStepKeepsTheInvariant :
    State.Inv (offered 0x9000000001#40
      { tempState calK 27898 with b5 := 2399#32, t := 150#32, status := { Status.zero with tv := true } }) ∧
    (∃ s', step (offered 0x9000000001#40
      { tempState calK 27898 with b5 := 2399#32, t := 150#32, status := { Status.zero with tv := true } })
        = .next s' ∧ s'.status.tv = true) :=
  ⟨⟨fun h => (by cases h), fun h => (by cases h), fun _ => (by decide)⟩,
    exists_next (by decide)⟩

/-- The requests of R302 up to the point where PRES is allowed. -/
def orderedSession : List Instr :=
  [.wrAc1 408#32, .wrAc2 0xFFFFFFB8#32, .wrAc3 0xFFFFC7D1#32, .wrAc4 32741#32, .wrAc5 32757#32,
   .wrAc6 23153#32, .wrB1 6190#32, .wrB2 4#32, .wrMc 0xFFFFDDF9#32, .wrMd 2868#32,
   .wrUt 27898#32, .temp, .rdStatus, .wrUp 23843#32]

theorem test_witness_OrderedHostConvertsOneSample :
    ∃ h s, hostRun orderedSession HostTrack.start State.reset = some (h, s) ∧
      h.allows s .pres = true := by
  have e : ((hostRun orderedSession HostTrack.start State.reset).map
      (fun x => x.1.allows x.2 .pres)) = some true := by decide
  rcases hr : hostRun orderedSession HostTrack.start State.reset with _ | ⟨h, s⟩
  · rw [hr] at e; cases e
  · rw [hr] at e; exact ⟨h, s, rfl, by simpa using e⟩

/-- Three instances, and the middle one. -/
theorem test_witness_InstancesDoNotInteract :
    ∃ k : Fin ([State.reset, tempState calK 1, State.reset] : Instances).length, k.val = 1 :=
  ⟨⟨1, by decide⟩, rfl⟩

/-- RD STATUS offered with every latency 2, and two more cycles. -/
theorem test_witness_RequestCompletesAfterItsLatency :
    let lat : Latencies := { latReg := 2, latTemp := 2, latPres := 2 }
    let quiet : PortIn := { rst := false, reqValid := false, req := 0#40 }
    lat.Positive ∧ (∀ i ∈ [quiet, quiet], i.rst = false) ∧
    [quiet, quiet].length = requestLatency lat 0x1100000000#40 := by
  decide

theorem test_witness_ResetAbandonsTheRequestInFlight :
    ({ rst := true, reqValid := true, req := 0#40 } : PortIn).rst = true := rfl

/-- Registers 0 and 127, values at both ends, and each command code beyond its low byte. -/
theorem test_witness_AssembledLinesHaveTheirFields :
    (AsmLine.rd 127).wf = true ∧ (AsmLine.wr 127 (-2 ^ 31)).wf = true ∧
    (AsmLine.wr 0 (2 ^ 32 - 1)).wf = true ∧ (AsmLine.wr 16 (-256)).wf = true ∧
    (-256 : Int) % 256 = 0 ∧ (257 : Int) % 256 = 1 ∧ (-254 : Int) % 256 = 2 ∧ (3 : Int) % 256 = 3 := by
  decide

/-- CONVT and CONVP on the known vectors (V1, V3). -/
theorem test_witness_PseudoInstructionsDoWhatTheyExpandTo :
    (∃ s', exec .temp { State.reset with cal := calK, ut := BitVec.ofInt 16 27898 } = .next s' ∧
      (s'.b5 == 2399#32) = true) ∧
    (∃ s', exec .pres { presState calK 2399 0 with up := BitVec.ofInt 32 23843 } = .next s' ∧
      (s'.p == 69964#32) = true) :=
  ⟨exists_next (by decide), exists_next (by decide)⟩

end Sys2Proof.Tests
end

section
/-! ## What an instruction does, once for all proofs

`Effect i s s'` is the inversion of `exec`: one constructor for each kind of instruction, with TEMP and PRES
split at their zero check, and the whole next state in each. `exec_iff_effect` ties it to `exec`. -/

namespace Sys2Proof.Machine

/-- The coefficient set with the coefficient that `r` names replaced (R21). -/
def Coefficients.write (c : Coefficients) (r : Reg) (v : Half) : Coefficients :=
  match r with
  | .ac1 => { c with ac1 := v }
  | .ac2 => { c with ac2 := v }
  | .ac3 => { c with ac3 := v }
  | .ac4 => { c with ac4 := v }
  | .ac5 => { c with ac5 := v }
  | .ac6 => { c with ac6 := v }
  | .b1 => { c with b1 := v }
  | .b2 => { c with b2 := v }
  | .mb => { c with mb := v }
  | .mc => { c with mc := v }
  | .md => { c with md := v }
  | .ut | .up | .b5 | .t | .p | .cmd | .status => c

/-- What the instruction `i` may lead to from `s`. A coefficient is a register of index 0 to 10 (R21), and
`decodeWrite` says which instruction writes it. -/
inductive Effect (i : Instr) (s : State) : State → Prop
  | read (r : Reg) (hi : i = decodeRead r) : Effect i s (s.respond (readReg r s))
  | writeCoefficient (r : Reg) (d : Word) (hr : (Reg.index r).toNat ≤ 10) (hi : decodeWrite r d = .ok i) :
      Effect i s { s with cal := s.cal.write r (low16 d) }
  | writeUt (d : Word) (hi : i = .wrUt d) : Effect i s (s.setUt (low16 d))
  | writeUp (d : Word) (hi : i = .wrUp d) : Effect i s (s.setUp d)
  | writeB5 (d : Word) (hi : i = .wrB5 d) : Effect i s ((s.setB5 d).withStatus s.status.clearTv)
  | nop (hi : i = .nop) : Effect i s s
  | tempError (hi : i = .temp) (h0 : Wrapped.divisor s.cal s.ut = 0) :
      Effect i s ((s.recordRange (Temp.beforeCheck s.cal s.ut)).raiseCalibrationError .temperature)
  | tempCommit (hi : i = .temp) (h0 : Wrapped.divisor s.cal s.ut ≠ 0) :
      Effect i s ((s.recordRange (Temp.beforeCheck s.cal s.ut ++ Temp.afterCheck s.cal s.ut)).commitTemp
        (pattern32 (Wrapped.b5 s.cal s.ut)) (pattern32 ((Wrapped.b5 s.cal s.ut + 8) / 16)))
  | presError (hi : i = .pres) (h0 : Wrapped.b4 s.cal s.b5 = 0) :
      Effect i s ((s.recordRange (Pres.beforeCheck s.cal s.b5 s.up)).raiseCalibrationError .pressure)
  | presCommit (hi : i = .pres) (h0 : Wrapped.b4 s.cal s.b5 ≠ 0) :
      Effect i s ((s.recordRange (Pres.beforeCheck s.cal s.b5 s.up ++
          Pres.afterCheck s.cal s.b5 s.up)).commitPres
        (pattern32 (Pres.pP (Pres.p0 s.cal s.b5 s.up).val).val) (Pres.hi s.cal s.b5 s.up))
  | clr (hi : i = .clr) : Effect i s s.acknowledge

/-! ### The effect is what `exec` answers -/

theorem exec_decodeRead (r : Reg) (s : State) :
    exec (decodeRead r) s = .next (s.respond (readReg r s)) := by
  cases r <;> rfl

theorem exec_writeCoefficient {r : Reg} {d : Word} {i : Instr} (hr : (Reg.index r).toNat ≤ 10)
    (hi : decodeWrite r d = .ok i) (s : State) :
    exec i s = .next { s with cal := s.cal.write r (low16 d) } := by
  cases r
  case ut | up | b5 | t | p | cmd | status => exact absurd hr (by decide)
  all_goals cases hi; rfl

theorem execTemp_error {s : State} (h0 : Wrapped.divisor s.cal s.ut = 0) :
    execTemp s = .next ((s.recordRange (Temp.beforeCheck s.cal s.ut)).raiseCalibrationError
      .temperature) := by
  obtain ⟨_, e⟩ | ⟨hne, _⟩ := execTemp_cases s
  · exact e
  · exact absurd ((Temp.tS_val s.cal s.ut).1.trans h0) hne

theorem execTemp_commit {s : State} (h0 : Wrapped.divisor s.cal s.ut ≠ 0) :
    execTemp s = .next
      ((s.recordRange (Temp.beforeCheck s.cal s.ut ++ Temp.afterCheck s.cal s.ut)).commitTemp
        (pattern32 (Wrapped.b5 s.cal s.ut)) (pattern32 ((Wrapped.b5 s.cal s.ut + 8) / 16))) := by
  obtain ⟨hz, _⟩ | ⟨_, e⟩ := execTemp_cases s
  · exact absurd ((Temp.tS_val s.cal s.ut).1.symm.trans hz) h0
  · rw [e, (Temp.tB5_val s.cal s.ut h0).1, Temp.tT_val s.cal s.ut h0]

theorem execPres_error {s : State} (h0 : Wrapped.b4 s.cal s.b5 = 0) :
    execPres s = .next ((s.recordRange (Pres.beforeCheck s.cal s.b5 s.up)).raiseCalibrationError
      .pressure) := by
  obtain ⟨_, e⟩ | ⟨hne, _⟩ := execPres_cases s
  · exact e
  · exact absurd ((Pres.pB4_val s.cal s.b5).trans h0) hne

theorem execPres_commit {s : State} (h0 : Wrapped.b4 s.cal s.b5 ≠ 0) :
    execPres s = .next ((s.recordRange (Pres.beforeCheck s.cal s.b5 s.up ++
        Pres.afterCheck s.cal s.b5 s.up)).commitPres
      (pattern32 (Pres.pP (Pres.p0 s.cal s.b5 s.up).val).val) (Pres.hi s.cal s.b5 s.up)) := by
  obtain ⟨hz, _⟩ | ⟨_, e⟩ := execPres_cases s
  · exact absurd ((Pres.pB4_val s.cal s.b5).symm.trans hz) h0
  · exact e

theorem Effect.exec_eq {i : Instr} {s s' : State} (h : Effect i s s') : exec i s = .next s' := by
  cases h with
  | read r hi => rw [hi]; exact exec_decodeRead r s
  | writeCoefficient r d hr hi => exact exec_writeCoefficient hr hi s
  | writeUt d hi | writeUp d hi | writeB5 d hi => rw [hi]; rfl
  | nop hi | clr hi => rw [hi]; rfl
  | tempError hi h0 => rw [hi]; exact execTemp_error h0
  | tempCommit hi h0 => rw [hi]; exact execTemp_commit h0
  | presError hi h0 => rw [hi]; exact execPres_error h0
  | presCommit hi h0 => rw [hi]; exact execPres_commit h0

/-- Every instruction has an effect in every state (R160). -/
theorem exists_effect (i : Instr) (s : State) : ∃ s', Effect i s s' :=
  match i with
  | .rdAc1 => ⟨_, .read .ac1 rfl⟩
  | .rdAc2 => ⟨_, .read .ac2 rfl⟩
  | .rdAc3 => ⟨_, .read .ac3 rfl⟩
  | .rdAc4 => ⟨_, .read .ac4 rfl⟩
  | .rdAc5 => ⟨_, .read .ac5 rfl⟩
  | .rdAc6 => ⟨_, .read .ac6 rfl⟩
  | .rdB1 => ⟨_, .read .b1 rfl⟩
  | .rdB2 => ⟨_, .read .b2 rfl⟩
  | .rdMb => ⟨_, .read .mb rfl⟩
  | .rdMc => ⟨_, .read .mc rfl⟩
  | .rdMd => ⟨_, .read .md rfl⟩
  | .rdUt => ⟨_, .read .ut rfl⟩
  | .rdUp => ⟨_, .read .up rfl⟩
  | .rdB5 => ⟨_, .read .b5 rfl⟩
  | .rdT => ⟨_, .read .t rfl⟩
  | .rdP => ⟨_, .read .p rfl⟩
  | .rdCmd => ⟨_, .read .cmd rfl⟩
  | .rdStatus => ⟨_, .read .status rfl⟩
  | .wrAc1 d => ⟨_, .writeCoefficient .ac1 d (by decide) rfl⟩
  | .wrAc2 d => ⟨_, .writeCoefficient .ac2 d (by decide) rfl⟩
  | .wrAc3 d => ⟨_, .writeCoefficient .ac3 d (by decide) rfl⟩
  | .wrAc4 d => ⟨_, .writeCoefficient .ac4 d (by decide) rfl⟩
  | .wrAc5 d => ⟨_, .writeCoefficient .ac5 d (by decide) rfl⟩
  | .wrAc6 d => ⟨_, .writeCoefficient .ac6 d (by decide) rfl⟩
  | .wrB1 d => ⟨_, .writeCoefficient .b1 d (by decide) rfl⟩
  | .wrB2 d => ⟨_, .writeCoefficient .b2 d (by decide) rfl⟩
  | .wrMb d => ⟨_, .writeCoefficient .mb d (by decide) rfl⟩
  | .wrMc d => ⟨_, .writeCoefficient .mc d (by decide) rfl⟩
  | .wrMd d => ⟨_, .writeCoefficient .md d (by decide) rfl⟩
  | .wrUt d => ⟨_, .writeUt d rfl⟩
  | .wrUp d => ⟨_, .writeUp d rfl⟩
  | .wrB5 d => ⟨_, .writeB5 d rfl⟩
  | .nop => ⟨_, .nop rfl⟩
  | .temp =>
    if h0 : Wrapped.divisor s.cal s.ut = 0 then ⟨_, .tempError rfl h0⟩ else ⟨_, .tempCommit rfl h0⟩
  | .pres =>
    if h0 : Wrapped.b4 s.cal s.b5 = 0 then ⟨_, .presError rfl h0⟩ else ⟨_, .presCommit rfl h0⟩
  | .clr => ⟨_, .clr rfl⟩

theorem exec_iff_effect {i : Instr} {s s' : State} : exec i s = .next s' ↔ Effect i s s' := by
  refine ⟨fun h => ?_, Effect.exec_eq⟩
  obtain ⟨t, ht⟩ := exists_effect i s
  have e : Host.Outcome.next t = .next s' := ht.exec_eq.symm.trans h
  cases e
  exact ht

/-! ### The port and a reserved request (R167) -/

@[simp] theorem State.reservedRequest_cal (s : State) (r : Reserved) :
    (s.reservedRequest r).cal = s.cal := by cases r <;> rfl
@[simp] theorem State.reservedRequest_ut (s : State) (r : Reserved) :
    (s.reservedRequest r).ut = s.ut := by cases r <;> rfl
@[simp] theorem State.reservedRequest_up (s : State) (r : Reserved) :
    (s.reservedRequest r).up = s.up := by cases r <;> rfl
@[simp] theorem State.reservedRequest_b5 (s : State) (r : Reserved) :
    (s.reservedRequest r).b5 = s.b5 := by cases r <;> rfl
@[simp] theorem State.reservedRequest_t (s : State) (r : Reserved) :
    (s.reservedRequest r).t = s.t := by cases r <;> rfl
@[simp] theorem State.reservedRequest_p (s : State) (r : Reserved) :
    (s.reservedRequest r).p = s.p := by cases r <;> rfl
@[simp] theorem State.reservedRequest_status (s : State) (r : Reserved) :
    (s.reservedRequest r).status = s.status.setIll := by cases r <;> rfl

/-! ## The invariant of the register file -/

/-- The invariant reads four flags, T and B5, and nothing else. -/
theorem State.Inv.of_kept {s s' : State} (h : s.Inv)
    (htv : s'.status.tv = s.status.tv) (hpv : s'.status.pv = s.status.pv)
    (hterr : s'.status.terr = s.status.terr) (hperr : s'.status.perr = s.status.perr)
    (ht : s'.t = s.t) (hb5 : s'.b5 = s.b5) : s'.Inv where
  terr_excludes_tv := by rw [hterr, htv]; exact h.terr_excludes_tv
  perr_excludes_pv := by rw [hperr, hpv]; exact h.perr_excludes_pv
  pair := by rw [htv, ht, hb5]; exact h.pair

theorem State.Inv.withPort {s : State} (h : s.Inv) (es : List PortEvent) : (s.withPort es).Inv :=
  h.of_kept rfl rfl rfl rfl rfl rfl

theorem State.Inv.reservedRequest {s : State} (h : s.Inv) (r : Reserved) : (s.reservedRequest r).Inv :=
  h.of_kept (by simp) (by simp) (by simp) (by simp) (by simp) (by simp)

theorem State.inv_applyReset (s : State) : s.applyReset.Inv where
  terr_excludes_tv := fun _ => rfl
  perr_excludes_pv := fun _ => rfl
  pair := fun h => absurd h Bool.false_ne_true

/-- A commit of TEMP leaves T and B5 a pair: neither value leaves s32, so storing them loses nothing (R200). -/
theorem tempPair {c : Coefficients} {ut : Half} (h0 : Wrapped.divisor c ut ≠ 0) :
    sext32 (pattern32 ((Wrapped.b5 c ut + 8) / 16)) = (sext32 (pattern32 (Wrapped.b5 c ut)) + 8) / 16 ∧
    -67174400 ≤ sext32 (pattern32 (Wrapped.b5 c ut)) ∧
    sext32 (pattern32 (Wrapped.b5 c ut)) ≤ 67174399 := by
  obtain ⟨-, hlo, hhi⟩ := Temp.tB5_val c ut h0
  rw [sext32_pattern32, sext32_pattern32, wrapS32_of_range (r := Wrapped.b5 c ut) (by omega),
    wrapS32_of_range (by omega)]
  exact ⟨rfl, hlo, hhi⟩

theorem Effect.inv {i : Instr} {s s' : State} (h : Effect i s s') (hs : s.Inv) : s'.Inv := by
  cases h with
  | read | writeCoefficient | writeUt | writeUp | nop => exact hs.of_kept rfl rfl rfl rfl rfl rfl
  | writeB5 d hi =>
    exact ⟨fun _ => rfl, hs.perr_excludes_pv, fun htv => absurd htv Bool.false_ne_true⟩
  | tempError hi h0 =>
    exact ⟨fun _ => rfl, hs.perr_excludes_pv, fun htv => absurd htv Bool.false_ne_true⟩
  | tempCommit hi h0 =>
    exact ⟨fun hterr => absurd hterr Bool.false_ne_true, hs.perr_excludes_pv, fun _ => tempPair h0⟩
  | presError hi h0 => exact ⟨hs.terr_excludes_tv, fun _ => rfl, hs.pair⟩
  | presCommit hi h0 =>
    exact ⟨hs.terr_excludes_tv, fun hperr => absurd hperr Bool.false_ne_true, hs.pair⟩
  | clr hi =>
    exact ⟨fun hterr => absurd hterr Bool.false_ne_true, fun hperr => absurd hperr Bool.false_ne_true,
      hs.pair⟩

/-- Settles O47, by the four kinds of step; among the instructions only TEMP ends with TV set, and it commits
a pair. -/
theorem everyStepKeepsTheInvariant : Obligations.EveryStepKeepsTheInvariant := by
  intro s s' hs h
  obtain ⟨-, rfl⟩ | ⟨w, rest, i, -, -, he⟩ | ⟨w, rest, r, -, -, rfl⟩ | ⟨q, rest, -, rfl⟩ := step_cases h
  · exact hs
  · exact (exec_iff_effect.mp he).inv (hs.withPort rest)
  · exact (hs.withPort rest).reservedRequest r
  · exact State.inv_applyReset _

/-! ## No flag feeds back (R31) -/

/-- Only STATUS reads the flags. -/
theorem readReg_withStatus {r : Reg} (hr : r ≠ .status) (s : State) (f : Status) :
    readReg r (s.withStatus f) = readReg r s := by
  cases r
  case status => exact absurd rfl hr
  all_goals rfl

/-- From the state with other flags an instruction has the same kind of effect: the next state differs in
STATUS, and in the responses where the instruction is RD STATUS. -/
theorem Effect.withStatus {i : Instr} {s s' : State} (h : Effect i s s') (f : Status) :
    ∃ f' rs, Effect i (s.withStatus f) { s' with status := f', responses := rs } ∧
      (i ≠ .rdStatus → rs = s'.responses) := by
  cases h with
  | read r hi =>
    refine ⟨_, _, Effect.read r hi, fun hne => ?_⟩
    have hr : r ≠ .status := by rintro rfl; exact hne hi
    rw [readReg_withStatus hr]
    rfl
  | writeCoefficient r d hr hi => exact ⟨_, _, Effect.writeCoefficient r d hr hi, fun _ => rfl⟩
  | writeUt d hi => exact ⟨_, _, Effect.writeUt d hi, fun _ => rfl⟩
  | writeUp d hi => exact ⟨_, _, Effect.writeUp d hi, fun _ => rfl⟩
  | writeB5 d hi => exact ⟨_, _, Effect.writeB5 d hi, fun _ => rfl⟩
  | nop hi => exact ⟨_, _, Effect.nop hi, fun _ => rfl⟩
  | tempError hi h0 => exact ⟨_, _, Effect.tempError (s := s.withStatus f) hi h0, fun _ => rfl⟩
  | tempCommit hi h0 => exact ⟨_, _, Effect.tempCommit (s := s.withStatus f) hi h0, fun _ => rfl⟩
  | presError hi h0 => exact ⟨_, _, Effect.presError (s := s.withStatus f) hi h0, fun _ => rfl⟩
  | presCommit hi h0 => exact ⟨_, _, Effect.presCommit (s := s.withStatus f) hi h0, fun _ => rfl⟩
  | clr hi => exact ⟨_, _, Effect.clr hi, fun _ => rfl⟩

/-- Settles O42: no effect's condition, and no register it writes, depends on a flag. -/
theorem flagsNeverFeedBack : Obligations.FlagsNeverFeedBack := by
  intro i s s' f h
  obtain ⟨f', rs, he, hrs⟩ := (exec_iff_effect.mp h).withStatus f
  exact ⟨_, he.exec_eq, rfl, rfl, rfl, rfl, rfl, rfl, hrs⟩

/-! ## What can change one thing of the state -/

section
variable {α : Type} {Q : List PortEvent → Instr → Prop} {s s' : State}

/-- A thing `f` of the state that neither the port nor a reserved request touches changes only over an
instruction and at reset. `Q` says which instructions change `f`, and how. -/
theorem step_change_cause (f : State → α) (h : step s = .next s')
    (hreserved : ∀ rest r, f ((s.withPort rest).reservedRequest r) = f s)
    (heffect : ∀ rest i, Effect i (s.withPort rest) s' → f s' = f s ∨ Q rest i) (hne : f s' ≠ f s) :
    (∃ w rest i, s.port = .request w :: rest ∧ decode w = .ok i ∧ Q rest i) ∨
      (∃ q rest, s.port = .reset q :: rest ∧ s' = (s.withPort rest).applyReset) := by
  obtain ⟨-, rfl⟩ | ⟨w, rest, i, hp, hd, he⟩ | ⟨w, rest, r, -, -, rfl⟩ | hreset := step_cases h
  · exact absurd rfl hne
  · exact .inl ⟨w, rest, i, hp, hd, (heffect rest i (exec_iff_effect.mp he)).resolve_left hne⟩
  · exact absurd (hreserved rest r) hne
  · exact .inr hreset

/-- Reset clears every flag, so only an instruction sets one. -/
theorem step_sets_flag (f : State → Bool) (h : step s = .next s')
    (hreserved : ∀ rest r, f ((s.withPort rest).reservedRequest r) = f s)
    (hreset : ∀ t, f (State.applyReset t) = false)
    (heffect : ∀ rest i, Effect i (s.withPort rest) s' → f s' = f s ∨ Q rest i)
    (h0 : f s = false) (h1 : f s' = true) :
    ∃ w rest i, s.port = .request w :: rest ∧ decode w = .ok i ∧ Q rest i := by
  obtain hi | ⟨q, rest, -, rfl⟩ := step_change_cause f h hreserved heffect (by simp [h0, h1])
  · exact hi
  · exact absurd ((hreset _).symm.trans h1) Bool.false_ne_true

end

/-! ### OVF, UNF and ILL -/

/-- OVF, UNF and ILL stay set over every instruction but CLR (R28). -/
theorem Effect.sticky_kept {i : Instr} {s s' : State} (h : Effect i s s') (hi : i ≠ .clr) :
    (s.status.ovf = true → s'.status.ovf = true) ∧ (s.status.unf = true → s'.status.unf = true) ∧
    (s.status.ill = true → s'.status.ill = true) := by
  cases h with
  | clr hclr => exact absurd hclr hi
  | read | writeCoefficient | writeUt | writeUp | writeB5 | nop => exact ⟨id, id, id⟩
  | tempError | tempCommit | presError | presCommit =>
    exact ⟨fun h => by simp [h], fun h => by simp [h], id⟩

/-- So too over every step that is not CLR and not reset. -/
theorem step_sticky_kept {s s' : State} (h : step s = .next s') :
    ((s.status.ovf = true → s'.status.ovf = true) ∧ (s.status.unf = true → s'.status.unf = true) ∧
      (s.status.ill = true → s'.status.ill = true)) ∨
    (∃ w rest, s.port = .request w :: rest ∧ decode w = .ok .clr) ∨ (∃ q rest, s.port = .reset q :: rest) := by
  obtain ⟨-, rfl⟩ | ⟨w, rest, i, hp, hd, he⟩ | ⟨w, rest, r, -, -, rfl⟩ | ⟨q, rest, hp, -⟩ := step_cases h
  · exact .inl ⟨id, id, id⟩
  · by_cases hi : i = .clr
    · exact .inr (.inl ⟨w, rest, hp, hi ▸ hd⟩)
    · exact .inl ((exec_iff_effect.mp he).sticky_kept hi)
  · exact .inl (by simp)
  · exact .inr (.inr ⟨q, rest, hp⟩)

/-- Settles O43: every other step keeps the three flags set. -/
theorem stickyFlagsAreClearedByClrOrReset : Obligations.StickyFlagsAreClearedByClrOrReset := by
  intro s s' h hcleared
  obtain ⟨hovf, hunf, hill⟩ | hcause := step_sticky_kept h
  · exfalso
    obtain ⟨hset, hclear⟩ | ⟨hset, hclear⟩ | ⟨hset, hclear⟩ := hcleared
    · exact Bool.false_ne_true (hclear.symm.trans (hovf hset))
    · exact Bool.false_ne_true (hclear.symm.trans (hunf hset))
    · exact Bool.false_ne_true (hclear.symm.trans (hill hset))
  · exact hcause

/-! ### TV, PV and B7HI -/

theorem Effect.tv_cases {i : Instr} {s s' : State} (h : Effect i s s') :
    s'.status.tv = s.status.tv ∨ (i = .temp ∧ s'.status.terr = !s'.status.tv) ∨
      ((∃ d, i = .wrB5 d) ∧ s'.status.tv = false) := by
  cases h with
  | tempError hi | tempCommit hi => exact .inr (.inl ⟨hi, rfl⟩)
  | writeB5 d hi => exact .inr (.inr ⟨⟨d, hi⟩, rfl⟩)
  | _ => exact .inl rfl

theorem Effect.pv_cases {i : Instr} {s s' : State} (h : Effect i s s') :
    s'.status.pv = s.status.pv ∨ (i = .pres ∧ s'.status.perr = !s'.status.pv) := by
  cases h with
  | presError hi | presCommit hi => exact .inr ⟨hi, rfl⟩
  | _ => exact .inl rfl

theorem Effect.b7hi_cases {i : Instr} {s s' : State} (h : Effect i s s') :
    s'.status.b7hi = s.status.b7hi ∨ (i = .pres ∧ s'.status.perr = false) := by
  cases h with
  | presCommit hi => exact .inr ⟨hi, rfl⟩
  | _ => exact .inl rfl

theorem step_sets_tv {s s' : State} (h : step s = .next s') (h0 : s.status.tv = false)
    (h1 : s'.status.tv = true) :
    ∃ w rest, s.port = .request w :: rest ∧ decode w = .ok .temp ∧ s'.status.terr = false := by
  obtain ⟨w, rest, i, hp, hd, ⟨rfl, e⟩ | ⟨-, e⟩⟩ :=
    step_sets_flag (·.status.tv) h (by simp) (fun _ => rfl) (fun _ _ he => he.tv_cases) h0 h1
  · exact ⟨w, rest, hp, hd, by simpa [h1] using e⟩
  · simp [h1] at e

theorem step_clears_tv {s s' : State} (h : step s = .next s') (h0 : s.status.tv = true)
    (h1 : s'.status.tv = false) :
    (∃ w rest, s.port = .request w :: rest ∧
      ((decode w = .ok .temp ∧ s'.status.terr = true) ∨ ∃ v, decode w = .ok (.wrB5 v))) ∨
    (∃ q rest, s.port = .reset q :: rest) := by
  obtain ⟨w, rest, i, hp, hd, ⟨rfl, e⟩ | ⟨⟨d, rfl⟩, -⟩⟩ | ⟨q, rest, hp, -⟩ :=
    step_change_cause (·.status.tv) h (by simp) (fun _ _ he => he.tv_cases) (by simp [h0, h1])
  · exact .inl ⟨w, rest, hp, .inl ⟨hd, by simpa [h1] using e⟩⟩
  · exact .inl ⟨w, rest, hp, .inr ⟨d, hd⟩⟩
  · exact .inr ⟨q, rest, hp⟩

theorem step_sets_pv {s s' : State} (h : step s = .next s') (h0 : s.status.pv = false)
    (h1 : s'.status.pv = true) :
    ∃ w rest, s.port = .request w :: rest ∧ decode w = .ok .pres ∧ s'.status.perr = false := by
  obtain ⟨w, rest, i, hp, hd, rfl, e⟩ :=
    step_sets_flag (·.status.pv) h (by simp) (fun _ => rfl) (fun _ _ he => he.pv_cases) h0 h1
  exact ⟨w, rest, hp, hd, by simpa [h1] using e⟩

theorem step_clears_pv {s s' : State} (h : step s = .next s') (h0 : s.status.pv = true)
    (h1 : s'.status.pv = false) :
    (∃ w rest, s.port = .request w :: rest ∧ decode w = .ok .pres ∧ s'.status.perr = true) ∨
    (∃ q rest, s.port = .reset q :: rest) := by
  obtain ⟨w, rest, i, hp, hd, rfl, e⟩ | ⟨q, rest, hp, -⟩ :=
    step_change_cause (·.status.pv) h (by simp) (fun _ _ he => he.pv_cases) (by simp [h0, h1])
  · exact .inl ⟨w, rest, hp, hd, by simpa [h1] using e⟩
  · exact .inr ⟨q, rest, hp⟩

theorem step_changes_b7hi {s s' : State} (h : step s = .next s') (hne : s.status.b7hi ≠ s'.status.b7hi) :
    (∃ w rest, s.port = .request w :: rest ∧ decode w = .ok .pres ∧ s'.status.perr = false) ∨
    (∃ q rest, s.port = .reset q :: rest) := by
  obtain ⟨w, rest, i, hp, hd, rfl, e⟩ | ⟨q, rest, hp, -⟩ :=
    step_change_cause (·.status.b7hi) h (by simp) (fun _ _ he => he.b7hi_cases) hne.symm
  · exact .inl ⟨w, rest, hp, hd, e⟩
  · exact .inr ⟨q, rest, hp⟩

/-- Settles O44: TEMP and PRES end with the error flag the negation of the valid flag, WR B5 clears TV, and no
other instruction touches the three flags. -/
theorem validFlagsChangeOnlyAsListed : Obligations.ValidFlagsChangeOnlyAsListed := fun _ _ h =>
  ⟨step_sets_tv h, step_clears_tv h, step_sets_pv h, step_clears_pv h, step_changes_b7hi h⟩

/-! ### TERR and PERR -/

theorem Effect.terr_cases {i : Instr} {s s' : State} (h : Effect i s s') :
    s'.status.terr = s.status.terr ∨
      (i = .temp ∧ s'.status.terr = true ∧ Wrapped.divisor s.cal s.ut = 0) ∨
      (i = .temp ∧ s'.status.terr = false ∧ s'.status.tv = true) ∨
      (i = .clr ∧ s'.status.terr = false) := by
  cases h with
  | tempError hi h0 => exact .inr (.inl ⟨hi, rfl, h0⟩)
  | tempCommit hi => exact .inr (.inr (.inl ⟨hi, rfl, rfl⟩))
  | clr hi => exact .inr (.inr (.inr ⟨hi, rfl⟩))
  | _ => exact .inl rfl

theorem Effect.perr_cases {i : Instr} {s s' : State} (h : Effect i s s') :
    s'.status.perr = s.status.perr ∨
      (i = .pres ∧ s'.status.perr = true ∧ Wrapped.b4 s.cal s.b5 = 0) ∨
      (i = .pres ∧ s'.status.perr = false ∧ s'.status.pv = true) ∨
      (i = .clr ∧ s'.status.perr = false) := by
  cases h with
  | presError hi h0 => exact .inr (.inl ⟨hi, rfl, h0⟩)
  | presCommit hi => exact .inr (.inr (.inl ⟨hi, rfl, rfl⟩))
  | clr hi => exact .inr (.inr (.inr ⟨hi, rfl⟩))
  | _ => exact .inl rfl

theorem step_sets_terr {s s' : State} (h : step s = .next s') (h0 : s.status.terr = false)
    (h1 : s'.status.terr = true) :
    ∃ w rest, s.port = .request w :: rest ∧ decode w = .ok .temp ∧ Wrapped.divisor s.cal s.ut = 0 := by
  obtain ⟨w, rest, i, hp, hd, ⟨rfl, -, hz⟩ | ⟨-, e, -⟩ | ⟨-, e⟩⟩ :=
    step_sets_flag (·.status.terr) h (by simp) (fun _ => rfl) (fun _ _ he => he.terr_cases) h0 h1
  · exact ⟨w, rest, hp, hd, hz⟩
  · simp [h1] at e
  · simp [h1] at e

theorem step_clears_terr {s s' : State} (h : step s = .next s') (h0 : s.status.terr = true)
    (h1 : s'.status.terr = false) :
    (∃ w rest, s.port = .request w :: rest ∧
      ((decode w = .ok .temp ∧ s'.status.tv = true) ∨ decode w = .ok .clr)) ∨
    (∃ q rest, s.port = .reset q :: rest) := by
  obtain ⟨w, rest, i, hp, hd, ⟨-, e, -⟩ | ⟨rfl, -, htv⟩ | ⟨rfl, -⟩⟩ | ⟨q, rest, hp, -⟩ :=
    step_change_cause (·.status.terr) h (by simp) (fun _ _ he => he.terr_cases) (by simp [h0, h1])
  · simp [h1] at e
  · exact .inl ⟨w, rest, hp, .inl ⟨hd, htv⟩⟩
  · exact .inl ⟨w, rest, hp, .inr hd⟩
  · exact .inr ⟨q, rest, hp⟩

theorem step_sets_perr {s s' : State} (h : step s = .next s') (h0 : s.status.perr = false)
    (h1 : s'.status.perr = true) :
    ∃ w rest, s.port = .request w :: rest ∧ decode w = .ok .pres ∧ Wrapped.b4 s.cal s.b5 = 0 := by
  obtain ⟨w, rest, i, hp, hd, ⟨rfl, -, hz⟩ | ⟨-, e, -⟩ | ⟨-, e⟩⟩ :=
    step_sets_flag (·.status.perr) h (by simp) (fun _ => rfl) (fun _ _ he => he.perr_cases) h0 h1
  · exact ⟨w, rest, hp, hd, hz⟩
  · simp [h1] at e
  · simp [h1] at e

theorem step_clears_perr {s s' : State} (h : step s = .next s') (h0 : s.status.perr = true)
    (h1 : s'.status.perr = false) :
    (∃ w rest, s.port = .request w :: rest ∧
      ((decode w = .ok .pres ∧ s'.status.pv = true) ∨ decode w = .ok .clr)) ∨
    (∃ q rest, s.port = .reset q :: rest) := by
  obtain ⟨w, rest, i, hp, hd, ⟨-, e, -⟩ | ⟨rfl, -, hpv⟩ | ⟨rfl, -⟩⟩ | ⟨q, rest, hp, -⟩ :=
    step_change_cause (·.status.perr) h (by simp) (fun _ _ he => he.perr_cases) (by simp [h0, h1])
  · simp [h1] at e
  · exact .inl ⟨w, rest, hp, .inl ⟨hd, hpv⟩⟩
  · exact .inl ⟨w, rest, hp, .inr hd⟩
  · exact .inr ⟨q, rest, hp⟩

/-- Settles O45: an error flag is set by its command's error and cleared by its commit and by CLR, and no
other instruction touches it. -/
theorem errorFlagsChangeOnlyAsListed : Obligations.ErrorFlagsChangeOnlyAsListed := fun _ _ h =>
  ⟨step_sets_terr h, step_clears_terr h, step_sets_perr h, step_clears_perr h⟩

/-! ### The registers -/

theorem encode_decodeRead (r : Reg) :
    encode (decodeRead r) = Request.mk false (Reg.index r) 0#32 := by
  cases r <;> rfl

theorem encode_of_decodeWrite {r : Reg} {d : Word} {i : Instr} (h : decodeWrite r d = .ok i) :
    ∃ d', encode i = Request.mk true (Reg.index r) d' := by
  cases r
  case t | p | status => cases h
  case cmd =>
    obtain ⟨-, e⟩ | ⟨-, e⟩ | ⟨-, e⟩ | ⟨-, e⟩ | ⟨-, e⟩ := decodeCommand_cases d.code
    all_goals cases e.symm.trans h
    all_goals exact ⟨_, rfl⟩
  all_goals cases h; exact ⟨d, rfl⟩

/-- A word has the W and IDX fields of the instruction it decodes to (R96). -/
theorem encode_fields_of_decode {w : Request} {i : Instr} (h : decode w = .ok i) :
    Request.isWrite (encode i) = Request.isWrite w ∧ Request.idx (encode i) = Request.idx w := by
  rcases hw : Request.isWrite w with _ | _ <;> rcases hr : Reg.ofIndex (Request.idx w) with _ | r
  · cases (decode_reserved_read hw hr).symm.trans h
  · cases (decode_read hw hr).symm.trans h
    rw [encode_decodeRead, Request.isWrite_mk, Request.idx_mk]
    exact ⟨rfl, Reg.index_of_ofIndex hr⟩
  · cases (decode_reserved_write hw hr).symm.trans h
  · obtain ⟨d', e⟩ := encode_of_decodeWrite ((decode_write hw hr).symm.trans h)
    rw [e, Request.isWrite_mk, Request.idx_mk]
    exact ⟨rfl, Reg.index_of_ofIndex hr⟩

/-- A word that decodes to a write of `r` has W = 1 and the index of `r` (R90). -/
theorem fields_of_decode_write {w : Request} {i : Instr} {r : Reg} {d : Word} (h : decode w = .ok i)
    (hi : decodeWrite r d = .ok i) :
    w.toNat / 2 ^ 39 = 1 ∧ w.toNat / 2 ^ 32 % 128 = (Reg.index r).toNat := by
  obtain ⟨hw, hidx⟩ := encode_fields_of_decode h
  obtain ⟨d', e⟩ := encode_of_decodeWrite hi
  rw [e, Request.isWrite_mk] at hw
  rw [e, Request.idx_mk] at hidx
  exact ⟨(Request.isWrite_eq_true_iff w).mp hw.symm, by rw [hidx, Request.idx_toNat]; rfl⟩

theorem Effect.cal_cases {i : Instr} {s s' : State} (h : Effect i s s') :
    s'.cal = s.cal ∨ ∃ r d, (Reg.index r).toNat ≤ 10 ∧ decodeWrite r d = .ok i := by
  cases h with
  | writeCoefficient r d hr hi => exact .inr ⟨r, d, hr, hi⟩
  | _ => exact .inl rfl

theorem Effect.ut_cases {i : Instr} {s s' : State} (h : Effect i s s') :
    s'.ut = s.ut ∨ ∃ d, i = .wrUt d := by
  cases h with
  | writeUt d hi => exact .inr ⟨d, hi⟩
  | _ => exact .inl rfl

theorem Effect.up_cases {i : Instr} {s s' : State} (h : Effect i s s') :
    s'.up = s.up ∨ ∃ d, i = .wrUp d := by
  cases h with
  | writeUp d hi => exact .inr ⟨d, hi⟩
  | _ => exact .inl rfl

theorem Effect.b5_cases {i : Instr} {s s' : State} (h : Effect i s s') :
    s'.b5 = s.b5 ∨ i = .temp ∨ ∃ d, i = .wrB5 d := by
  cases h with
  | tempCommit hi => exact .inr (.inl hi)
  | writeB5 d hi => exact .inr (.inr ⟨d, hi⟩)
  | _ => exact .inl rfl

theorem Effect.t_cases {i : Instr} {s s' : State} (h : Effect i s s') : s'.t = s.t ∨ i = .temp := by
  cases h with
  | tempCommit hi => exact .inr hi
  | _ => exact .inl rfl

theorem Effect.p_cases {i : Instr} {s s' : State} (h : Effect i s s') : s'.p = s.p ∨ i = .pres := by
  cases h with
  | presCommit hi => exact .inr hi
  | _ => exact .inl rfl

/-- Settles O46, register by register, from what each effect writes; for the coefficients the word's W and IDX
fields are those of the instruction it decodes to. -/
theorem registersChangeOnlyByTheirWriters : Obligations.RegistersChangeOnlyByTheirWriters := by
  intro s s' h
  refine ⟨fun hne => ?_, fun hne => ?_, fun hne => ?_, fun hne => ?_, fun hne => ?_, fun hne => ?_⟩
  · obtain ⟨w, rest, i, hp, hd, r, d, hr, hi⟩ | ⟨q, rest, hp, -⟩ :=
      step_change_cause State.cal h (by simp) (fun _ _ he => he.cal_cases) hne
    · obtain ⟨hw, hidx⟩ := fields_of_decode_write hd hi
      exact .inl ⟨w, rest, hp, hw, hidx.trans_le hr⟩
    · exact .inr ⟨q, rest, hp⟩
  · obtain ⟨w, rest, i, hp, hd, d, rfl⟩ | ⟨q, rest, hp, -⟩ :=
      step_change_cause State.ut h (by simp) (fun _ _ he => he.ut_cases) hne
    · exact .inl ⟨w, rest, d, hp, hd⟩
    · exact .inr ⟨q, rest, hp⟩
  · obtain ⟨w, rest, i, hp, hd, d, rfl⟩ | ⟨q, rest, hp, -⟩ :=
      step_change_cause State.up h (by simp) (fun _ _ he => he.up_cases) hne
    · exact .inl ⟨w, rest, d, hp, hd⟩
    · exact .inr ⟨q, rest, hp⟩
  · obtain ⟨w, rest, i, hp, hd, rfl | ⟨d, rfl⟩⟩ | ⟨q, rest, hp, -⟩ :=
      step_change_cause State.b5 h (by simp) (fun _ _ he => he.b5_cases) hne
    · exact .inl ⟨w, rest, hp, .inl hd⟩
    · exact .inl ⟨w, rest, hp, .inr ⟨d, hd⟩⟩
    · exact .inr ⟨q, rest, hp⟩
  · obtain ⟨w, rest, i, hp, hd, rfl⟩ | ⟨q, rest, hp, -⟩ :=
      step_change_cause State.t h (by simp) (fun _ _ he => he.t_cases) hne
    · exact .inl ⟨w, rest, hp, hd⟩
    · exact .inr ⟨q, rest, hp⟩
  · obtain ⟨w, rest, i, hp, hd, rfl⟩ | ⟨q, rest, hp, -⟩ :=
      step_change_cause State.p h (by simp) (fun _ _ he => he.p_cases) hne
    · exact .inl ⟨w, rest, hp, hd⟩
    · exact .inr ⟨q, rest, hp⟩

end Sys2Proof.Machine
end

section
/-! ## The port: register reads and writes, order of requests, responses, cycles (spec/20_memory.md)

A request is `memRead` or `memWrite` of its fields (R66, R67). What a write leaves in each register is said
once, by `State.writeReg` and its field lemmas; the rest follows from the effect of an instruction. -/

namespace Sys2Proof.Machine

/-! ### A request is MemRead or MemWrite (R66, R67, R164) -/

theorem memRead_index (r : Reg) (s : State) : memRead (Reg.index r) s = (readReg r s, s) := by
  simp [memRead, Reg.ofIndex_index]

theorem memRead_reserved {i : RegIndex} (hi : Reg.ofIndex i = none) (s : State) :
    memRead i s = (0#32, s.withStatus s.status.setIll) := by
  simp [memRead, hi]

theorem memWrite_reserved {i : RegIndex} (hi : Reg.ofIndex i = none) (d : Word) (s : State) :
    memWrite i d s = .next (s.withStatus s.status.setIll) := by
  simp [memWrite, hi]

theorem execCommand_reserved {c : Code} (hc : 4 ≤ c.toNat) (s : State) :
    execCommand c s = .next (s.withStatus s.status.setIll) := by
  unfold execCommand
  split
  case h_5 => rfl
  all_goals omega

/-- The command dispatch on the code agrees with decoding it (R164). -/
theorem performRequest_command {w : Request} {c : Code} (hd : decode w = decodeCommand c) (s : State) :
    performRequest w s = execCommand c s := by
  obtain ⟨hc, e⟩ | ⟨hc, e⟩ | ⟨hc, e⟩ | ⟨hc, e⟩ | ⟨hc, e⟩ := decodeCommand_cases c
  case inr.inr.inr.inr =>
    rw [performRequest_reserved (hd.trans e), execCommand_reserved hc]
    rfl
  all_goals
    rw [performRequest_instr (hd.trans e)]
    simp only [execCommand, hc]
    rfl

theorem performRequest_read {w : Request} (hw : Request.isWrite w = false) (s : State) :
    performRequest w s =
      .next ((memRead (Request.idx w) s).2.respond (memRead (Request.idx w) s).1) := by
  rcases hr : Reg.ofIndex (Request.idx w) with _ | r
  · rw [performRequest_reserved (decode_reserved_read hw hr), memRead_reserved hr]
    rfl
  · rw [performRequest_instr (decode_read hw hr), exec_decodeRead, ← Reg.index_of_ofIndex hr,
      memRead_index]

theorem performRequest_write {w : Request} (hw : Request.isWrite w = true) (s : State) :
    performRequest w s = memWrite (Request.idx w) (Request.data w) s := by
  rcases hr : Reg.ofIndex (Request.idx w) with _ | r
  · rw [performRequest_reserved (decode_reserved_write hw hr), memWrite_reserved hr]
    rfl
  · have hd := decode_write hw hr
    rw [← Reg.index_of_ofIndex hr]
    cases r
    case cmd => exact performRequest_command hd s
    case t | p | status => exact performRequest_reserved hd s
    all_goals exact performRequest_instr hd s

/-- The statements' test of W on a RD word. -/
theorem ite_of_read {α : Type} {w : Request} (hw : Request.isWrite w = false) (a b : α) :
    (if w.toNat / 2 ^ 39 = 0 then a else b) = a :=
  if_pos ((Request.isWrite_eq_false_iff w).mp hw)

/-- The statements' test of W on a WR word. -/
theorem ite_of_write {α : Type} {w : Request} (hw : Request.isWrite w = true) (a b : α) :
    (if w.toNat / 2 ^ 39 = 0 then a else b) = b :=
  if_neg (by rw [(Request.isWrite_eq_true_iff w).mp hw]; decide)

/-- Settles O12, by the W field. -/
theorem requestsAreMemReadAndMemWrite : Obligations.RequestsAreMemReadAndMemWrite := by
  intro w s
  rcases hw : Request.isWrite w with _ | _
  · rw [ite_of_read hw, performRequest_read hw]
  · rw [ite_of_write hw, performRequest_write hw]

/-! ### What a write leaves in each register (R67) -/

@[simp] theorem Coefficients.write_ac1 (c : Coefficients) (r : Reg) (v : Half) :
    (c.write r v).ac1 = if r = .ac1 then v else c.ac1 := by cases r <;> rfl
@[simp] theorem Coefficients.write_ac2 (c : Coefficients) (r : Reg) (v : Half) :
    (c.write r v).ac2 = if r = .ac2 then v else c.ac2 := by cases r <;> rfl
@[simp] theorem Coefficients.write_ac3 (c : Coefficients) (r : Reg) (v : Half) :
    (c.write r v).ac3 = if r = .ac3 then v else c.ac3 := by cases r <;> rfl
@[simp] theorem Coefficients.write_ac4 (c : Coefficients) (r : Reg) (v : Half) :
    (c.write r v).ac4 = if r = .ac4 then v else c.ac4 := by cases r <;> rfl
@[simp] theorem Coefficients.write_ac5 (c : Coefficients) (r : Reg) (v : Half) :
    (c.write r v).ac5 = if r = .ac5 then v else c.ac5 := by cases r <;> rfl
@[simp] theorem Coefficients.write_ac6 (c : Coefficients) (r : Reg) (v : Half) :
    (c.write r v).ac6 = if r = .ac6 then v else c.ac6 := by cases r <;> rfl
@[simp] theorem Coefficients.write_b1 (c : Coefficients) (r : Reg) (v : Half) :
    (c.write r v).b1 = if r = .b1 then v else c.b1 := by cases r <;> rfl
@[simp] theorem Coefficients.write_b2 (c : Coefficients) (r : Reg) (v : Half) :
    (c.write r v).b2 = if r = .b2 then v else c.b2 := by cases r <;> rfl
@[simp] theorem Coefficients.write_mb (c : Coefficients) (r : Reg) (v : Half) :
    (c.write r v).mb = if r = .mb then v else c.mb := by cases r <;> rfl
@[simp] theorem Coefficients.write_mc (c : Coefficients) (r : Reg) (v : Half) :
    (c.write r v).mc = if r = .mc then v else c.mc := by cases r <;> rfl
@[simp] theorem Coefficients.write_md (c : Coefficients) (r : Reg) (v : Half) :
    (c.write r v).md = if r = .md then v else c.md := by cases r <;> rfl

/-- The state with DATA `d` written to the writable register `r`; `memWrite_writable` ties it to MemWrite. -/
def State.writeReg (s : State) (r : Reg) (d : Word) : State :=
  match r with
  | .ut => s.setUt (low16 d)
  | .up => s.setUp d
  | .b5 => (s.setB5 d).withStatus s.status.clearTv
  | r => { s with cal := s.cal.write r (low16 d) }

theorem memWrite_writable {r : Reg} (hr : (Reg.index r).toNat ≤ 13) (d : Word) (s : State) :
    memWrite (Reg.index r) d s = .next (s.writeReg r d) := by
  cases r
  case t | p | cmd | status => exact absurd hr (by decide)
  all_goals rfl

section
variable (s : State) (r : Reg) (d : Word)

@[simp] theorem State.writeReg_cal : (s.writeReg r d).cal = s.cal.write r (low16 d) := by
  cases r <;> rfl
@[simp] theorem State.writeReg_ut : (s.writeReg r d).ut = if r = .ut then low16 d else s.ut := by
  cases r <;> rfl
@[simp] theorem State.writeReg_up : (s.writeReg r d).up = if r = .up then d else s.up := by
  cases r <;> rfl
@[simp] theorem State.writeReg_b5 : (s.writeReg r d).b5 = if r = .b5 then d else s.b5 := by
  cases r <;> rfl
@[simp] theorem State.writeReg_t : (s.writeReg r d).t = s.t := by cases r <;> rfl
@[simp] theorem State.writeReg_p : (s.writeReg r d).p = s.p := by cases r <;> rfl
@[simp] theorem State.writeReg_status :
    (s.writeReg r d).status = if r = .b5 then s.status.clearTv else s.status := by
  cases r <;> rfl

end

/-! ### Reading after a write (R66, R67) -/

theorem readReg_writeReg_of_ne {q r : Reg} (hne : q ≠ r) (hq : q ≠ .status) (s : State) (d : Word) :
    readReg q (s.writeReg r d) = readReg q s := by
  cases q
  case status => exact absurd rfl hq
  all_goals simp [readReg, hne.symm]

theorem readReg_writeReg_of_u16 {r : Reg} (hr : regType r = .u16) (s : State) (d : Word) :
    readReg r (s.writeReg r d) = readU16 (low16 d) := by
  cases r
  case ac4 | ac5 | ac6 => rfl
  all_goals cases hr

theorem readReg_writeReg_of_s16 {r : Reg} (hr : regType r = .s16) (s : State) (d : Word) :
    readReg r (s.writeReg r d) = readS16 (low16 d) := by
  cases r
  case ac4 | ac5 | ac6 | up | b5 | t | p | cmd | status => cases hr
  all_goals rfl

theorem low16_toNat (d : Word) : (low16 d).toNat = d.toNat % 65536 := by
  simp [low16]

theorem readU16_low16_toNat (d : Word) : (readU16 (low16 d)).toNat = d.toNat % 65536 := by
  rw [readU16, BitVec.toNat_setWidth_of_le (by decide), low16_toNat]

theorem readS16_low16_toInt (d : Word) : (readS16 (low16 d)).toInt = Int.bmod d.toNat 65536 := by
  rw [readS16, BitVec.toInt_signExtend_of_le (by decide), BitVec.toInt_eq_toNat_bmod, low16_toNat,
    Int.natCast_mod]
  exact Int.emod_bmod ..

/-- The indices 0 to 17 name the registers (R20). -/
theorem Reg.exists_index_eq {i : RegIndex} (hi : i.toNat ≤ 17) : ∃ r, Reg.index r = i := by
  have hsome : ∀ i : RegIndex, i.toNat ≤ 17 → (Reg.ofIndex i).isSome := by decide
  obtain ⟨r, hr⟩ := Option.isSome_iff_exists.mp (hsome i hi)
  exact ⟨r, Reg.index_of_ofIndex hr⟩

theorem regType_of_index_unsigned {r : Reg} (h : 3 ≤ (Reg.index r).toNat ∧ (Reg.index r).toNat ≤ 5) :
    regType r = .u16 := by
  revert h
  cases r <;> decide

theorem regType_of_index_signed {r : Reg}
    (h : (Reg.index r).toNat < 3 ∨ (5 < (Reg.index r).toNat ∧ (Reg.index r).toNat < 12)) :
    regType r = .s16 := by
  revert h
  cases r <;> decide

theorem readReg_writeReg_of_index_wide {r : Reg}
    (h : 12 ≤ (Reg.index r).toNat) (h' : (Reg.index r).toNat ≤ 13) (s : State) (d : Word) :
    readReg r (s.writeReg r d) = d := by
  cases r
  case up | b5 => rfl
  case t | p | cmd | status => exact absurd h' (by decide)
  all_goals exact absurd h (by decide)

/-- A write changes what no other index reads, but for STATUS. -/
theorem memRead_writeReg_of_ne {r : Reg} {j : RegIndex} (hne : j ≠ Reg.index r) (hj : j ≠ 17#7)
    (s : State) (d : Word) : (memRead j (s.writeReg r d)).1 = (memRead j s).1 := by
  rcases hq : Reg.ofIndex j with _ | q
  · rw [memRead_reserved hq, memRead_reserved hq]
  · obtain rfl := Reg.index_of_ofIndex hq
    rw [memRead_index, memRead_index]
    exact readReg_writeReg_of_ne (mt (congrArg Reg.index) hne) (mt (congrArg Reg.index) hj) s d

theorem writeReg_status_eq (s : State) (r : Reg) (d : Word) :
    (s.writeReg r d).status = { s.status with tv := s.status.tv && !(Reg.index r == 13#7) } := by
  by_cases hr : r = .b5
  · subst hr
    simp [Status.clearTv, Reg.index]
  · have hi : (Reg.index r == 13#7) = false :=
      beq_eq_false_iff_ne.mpr (mt (Reg.index_injective (q := .b5)) hr)
    simp [hr, hi]

/-- Settles O11: the request leaves `writeReg` of the register the index names. -/
theorem readAfterWrite : Obligations.ReadAfterWrite := by
  intro i d s hi
  obtain ⟨r, rfl⟩ := Reg.exists_index_eq (hi.trans (by decide))
  refine ⟨s.writeReg r d, ?_, fun hu => ?_, fun hs => ?_, fun hw => ?_,
    fun j hne hj => memRead_writeReg_of_ne hne hj s d, writeReg_status_eq s r d⟩
  · rw [performRequest_write (Request.isWrite_mk ..), Request.idx_mk, Request.data_mk,
      memWrite_writable hi]
  · rw [memRead_index, readReg_writeReg_of_u16 (regType_of_index_unsigned hu), readU16_low16_toNat]
  · rw [memRead_index, readReg_writeReg_of_s16 (regType_of_index_signed hs), readS16_low16_toInt]
  · rw [memRead_index, readReg_writeReg_of_index_wide hw hi]

/-! ### Responses (R61) -/

theorem memRead_responses (i : RegIndex) (s : State) : (memRead i s).2.responses = s.responses := by
  rcases hi : Reg.ofIndex i with _ | r <;> simp [memRead, hi]

theorem Effect.responses_cases {i : Instr} {s s' : State} (h : Effect i s s') :
    s'.responses = s.responses ∨ ∃ r, i = decodeRead r := by
  cases h with
  | read r hi => exact .inr ⟨r, hi⟩
  | _ => exact .inl rfl

theorem decode_write_ne_read {w : Request} (hw : Request.isWrite w = true) (r : Reg) :
    decode w ≠ .ok (decodeRead r) := by
  intro hd
  have he := (encode_fields_of_decode hd).1
  rw [encode_decodeRead, Request.isWrite_mk, hw] at he
  exact Bool.false_ne_true he

theorem performRequest_write_responses {w : Request} {s s' : State} (hw : Request.isWrite w = true)
    (h : performRequest w s = .next s') : s'.responses = s.responses := by
  rcases hd : decode w with r | i
  · rw [performRequest_reserved hd] at h
    cases h
    simp [State.reservedRequest, decode_error_isRead hd, hw]
  · rw [performRequest_instr hd] at h
    obtain e | ⟨r, rfl⟩ := (exec_iff_effect.mp h).responses_cases
    · exact e
    · exact absurd hd (decode_write_ne_read hw r)

theorem performRequest_read_responses {w : Request} {s s' : State} (hw : Request.isWrite w = false)
    (h : performRequest w s = .next s') :
    s'.responses = s.responses ++ [(memRead (Request.idx w) s).1] := by
  rw [performRequest_read hw] at h
  cases h
  rw [State.respond_responses, memRead_responses]

/-- Settles O41, by the W field. -/
theorem oneResponsePerRead : Obligations.OneResponsePerRead := by
  intro w s s' h
  rcases hw : Request.isWrite w with _ | _
  · rw [ite_of_read hw, performRequest_read_responses hw h]
  · rw [ite_of_write hw, List.append_nil, performRequest_write_responses hw h]

/-! ### Requests complete, in the order accepted (R70, R160) -/

theorem exists_performRequest (w : Request) (s : State) : ∃ s', performRequest w s = .next s' := by
  rcases hd : decode w with r | i
  · exact ⟨_, performRequest_reserved hd s⟩
  · obtain ⟨s', he⟩ := exists_effect i s
    exact ⟨s', (performRequest_instr hd s).trans he.exec_eq⟩

theorem exists_step (s : State) : ∃ s', step s = .next s' := by
  rcases hp : s.port with _ | ⟨w | q, rest⟩ <;> simp only [step, hp]
  · exact ⟨s, rfl⟩
  · exact exists_performRequest w _
  · exact ⟨_, rfl⟩

/-- What the host has still to offer has no part in an instruction. -/
theorem Effect.withPort {i : Instr} {s s' : State} (h : Effect i s s') (es : List PortEvent) :
    Effect i (s.withPort es) (s'.withPort es) := by
  cases h with
  | read r hi =>
    have hr : readReg r (s.withPort es) = readReg r s := by cases r <;> rfl
    exact hr ▸ Effect.read r hi
  | writeCoefficient r d hr hi => exact Effect.writeCoefficient r d hr hi
  | writeUt d hi => exact Effect.writeUt d hi
  | writeUp d hi => exact Effect.writeUp d hi
  | writeB5 d hi => exact Effect.writeB5 d hi
  | nop hi => exact Effect.nop hi
  | tempError hi h0 => exact Effect.tempError (s := s.withPort es) hi h0
  | tempCommit hi h0 => exact Effect.tempCommit (s := s.withPort es) hi h0
  | presError hi h0 => exact Effect.presError (s := s.withPort es) hi h0
  | presCommit hi h0 => exact Effect.presCommit (s := s.withPort es) hi h0
  | clr hi => exact Effect.clr hi

theorem performRequest_withPort {w : Request} {s s' : State} (h : performRequest w s = .next s')
    (es : List PortEvent) : performRequest w (s.withPort es) = .next (s'.withPort es) := by
  rcases hd : decode w with r | i
  · rw [performRequest_reserved hd] at h ⊢
    cases h
    cases r <;> rfl
  · rw [performRequest_instr hd] at h ⊢
    exact ((exec_iff_effect.mp h).withPort es).exec_eq

theorem performAll_cons {w : Request} {s s' : State} (h : performRequest w s = .next s')
    (ws : List Request) : performAll (w :: ws) s = performAll ws s' := by
  simp [performAll, h]

/-- Settles O40, by induction on the requests: the first step performs the first of them, with the rest left at
the port. -/
theorem requestsArePerformedInOrder : Obligations.RequestsArePerformedInOrder := by
  intro ws
  induction ws with
  | nil => exact fun s rest => rfl
  | cons w ws ih =>
    intro s rest
    obtain ⟨s', h⟩ := exists_performRequest w s
    have hstep : step (s.withPort ((w :: ws).map PortEvent.request ++ rest))
        = .next (s'.withPort (ws.map PortEvent.request ++ rest)) := performRequest_withPort h _
    rw [performAll_cons (performRequest_withPort h rest), ← ih]
    exact core_run_next ws.length hstep

/-! ### Several instances (R76, R283) -/

theorem stepInstance_eq {xs : Instances} {k : Fin xs.length} {s' : State}
    (h : step (xs.get k) = .next s') : stepInstance xs k = .next (xs.set k.val s') := by
  simp only [stepInstance, h]

/-- Settles O50: every step completes, and one place of the list is set. -/
theorem instancesDoNotInteract : Obligations.InstancesDoNotInteract := by
  intro xs k
  obtain ⟨s', h⟩ := exists_step (xs.get k)
  exact ⟨s', xs.set k.val s', h, stepInstance_eq h, List.length_set,
    List.getElem?_set_self k.isLt, fun j hj => List.getElem?_set_ne hj.symm⟩

/-! ### One cycle, and the cycles of one request (R62, R305, R308) -/

section
variable (lat : Latencies) {i : PortIn} {s s' : State} {w : Request}

theorem cycle_accept (hrst : i.rst = false) (hvalid : i.reqValid = true) (s : State) :
    cycle lat i { block := s, inFlight := none } =
      .next ({ reqReady := true, rsp := none },
        { block := s, inFlight := some { word := i.req, left := requestLatency lat i.req } }) := by
  simp [cycle, hrst, hvalid]

theorem cycle_wait (hrst : i.rst = false) (s : State) (w : Request) (n : Nat) :
    cycle lat i { block := s, inFlight := some { word := w, left := n + 2 } } =
      .next ({ reqReady := false, rsp := none },
        { block := s, inFlight := some { word := w, left := n + 1 } }) := by
  simp [cycle, hrst]

theorem cycle_complete (hrst : i.rst = false) (h : performRequest w s = .next s') :
    cycle lat i { block := s, inFlight := some { word := w, left := 1 } } =
      .next ({ reqReady := false, rsp := completionResponse w s' },
        { block := s', inFlight := none }) := by
  simp [cycle, hrst, h]

theorem runCycles_cons {c c' c'' : Clocked} {o : PortOut} {is : List PortIn} {os : List PortOut}
    (h : cycle lat i c = .next (o, c')) (hs : runCycles lat is c' = .next (os, c'')) :
    runCycles lat (i :: is) c = .next (o :: os, c'') := by
  simp only [runCycles, h, hs]

/-- A request in flight waits, not ready, for all but the last of its cycles, and completes in that one. -/
theorem runCycles_inFlight (h : performRequest w s = .next s') {is : List PortIn}
    (hrst : ∀ j ∈ i :: is, j.rst = false) :
    runCycles lat (i :: is) { block := s, inFlight := some { word := w, left := is.length + 1 } } =
      .next (List.replicate is.length { reqReady := false, rsp := none } ++
          [{ reqReady := false, rsp := completionResponse w s' }],
        { block := s', inFlight := none }) := by
  obtain ⟨hi, his⟩ := List.forall_mem_cons.mp hrst
  induction is generalizing i with
  | nil => exact runCycles_cons lat (cycle_complete lat hi h) rfl
  | cons j is ih =>
    obtain ⟨hj, hjs⟩ := List.forall_mem_cons.mp his
    exact runCycles_cons lat (cycle_wait lat hi s w is.length) (ih his hj hjs)

theorem requestLatency_pos {lat : Latencies} (hlat : lat.Positive) (w : Request) :
    0 < requestLatency lat w := by
  obtain ⟨hreg, htemp, hpres⟩ := hlat
  unfold requestLatency
  split
  · exact htemp
  · exact hpres
  · exact hreg

theorem completionResponse_eq (h : performRequest w s = .next s') :
    completionResponse w s' =
      if w.toNat / 2 ^ 39 = 0 then some (memRead (Request.idx w) s).1 else none := by
  rcases hw : Request.isWrite w with _ | _
  · rw [ite_of_read hw]
    simp [completionResponse, hw, performRequest_read_responses hw h]
  · rw [ite_of_write hw]
    simp only [completionResponse, hw]

end

/-- Settles O51: the first cycle accepts the request and the later ones are those of a request in flight. -/
theorem requestCompletesAfterItsLatency : Obligations.RequestCompletesAfterItsLatency := by
  intro lat s first later hlat hrst hvalid hlater hlen
  obtain ⟨s', h⟩ := exists_performRequest first.req s
  refine ⟨s', h, runCycles_cons lat (cycle_accept lat hrst hvalid s) ?_⟩
  rw [← hlen, ← completionResponse_eq h]
  cases later with
  | nil => exact absurd (requestLatency_pos hlat first.req) (by rw [← hlen]; decide)
  | cons i is => exact runCycles_inFlight lat h hlater

end Sys2Proof.Machine
end

section
/-! ## The encoding: rows of the opcode table, reserved space, ignored bits, assembler (spec/30_encoding.md)

An instruction is of one of three shapes (R91): a read, a write of a register, a command. For each shape the
row's columns and the words that decode to it are said once, in the fields of R90. -/

namespace Sys2Proof
open Machine

/-! ### Fields of a word, and words under the two masks (R90, R96) -/

theorem Request.data_eq_ofNat (w : Request) : BitVec.ofNat 32 (w.toNat % 2 ^ 32) = Request.data w := by
  rw [← Request.data_toNat, BitVec.ofNat_toNat, BitVec.setWidth_eq]

theorem Word.code_toNat (d : Word) : d.code.toNat = d.toNat % 256 := by
  simp [Word.code]

theorem Word.code_setWidth (c : Code) : Word.code (c.setWidth 32) = c := by
  have hc := c.isLt
  apply BitVec.eq_of_toNat_eq
  rw [Word.code_toNat, BitVec.toNat_setWidth]
  omega

theorem Word.ofNat_code (d : Word) : BitVec.ofNat 32 (d.toNat % 256) = d.code.setWidth 32 := by
  rw [← Word.code_toNat, BitVec.ofNat_toNat]

theorem Request.and_firstByte_eq_iff (w : Request) (b : Bool) (i : RegIndex) :
    w &&& 0xFF00000000#40 = Request.mk b i 0#32 ↔ Request.isWrite w = b ∧ Request.idx w = i := by
  rw [← Request.mk_fields w, Request.mk_and_firstByte, Request.isWrite_mk, Request.idx_mk]
  refine ⟨fun h => ?_, fun ⟨hb, hi⟩ => by rw [hb, hi]⟩
  obtain ⟨hb, hi, -⟩ := Request.mk_injective h
  exact ⟨hb, hi⟩

theorem Request.and_commandMask_eq_iff (w : Request) (b : Bool) (i : RegIndex) (c : Code) :
    w &&& 0xFF000000FF#40 = Request.mk b i (c.setWidth 32) ↔
      Request.isWrite w = b ∧ Request.idx w = i ∧ (Request.data w).code = c := by
  rw [← Request.mk_fields w, Request.mk_and_commandMask, Word.ofNat_code, Request.isWrite_mk,
    Request.idx_mk, Request.data_mk]
  refine ⟨fun h => ?_, fun ⟨hb, hi, hc⟩ => by rw [hb, hi, hc]⟩
  obtain ⟨hb, hi, hd⟩ := Request.mk_injective h
  exact ⟨hb, hi, by rw [← Word.code_setWidth (Request.data w).code, hd, Word.code_setWidth]⟩

/-! ### The three shapes of an instruction (R91) -/

/-- No instruction is ill-formed (R95). -/
theorem Instr.wellFormed (i : Instr) : i.WellFormed := by
  cases i <;> rfl

theorem Instr.shape_cases (i : Instr) :
    (∃ r, i = decodeRead r) ∨ (∃ r d, (Reg.index r).toNat ≤ 13 ∧ decodeWrite r d = .ok i) ∨
      ∃ c, decodeCommand c = .ok i := by
  obtain ⟨_, h⟩ := exists_effect i State.reset
  cases h with
  | read r hi => exact .inl ⟨r, hi⟩
  | writeCoefficient r d hr hi => exact .inr (.inl ⟨r, d, hr.trans (by decide), hi⟩)
  | writeUt d hi => exact .inr (.inl ⟨.ut, d, by decide, by rw [hi]; rfl⟩)
  | writeUp d hi => exact .inr (.inl ⟨.up, d, by decide, by rw [hi]; rfl⟩)
  | writeB5 d hi => exact .inr (.inl ⟨.b5, d, by decide, by rw [hi]; rfl⟩)
  | nop hi => exact .inr (.inr ⟨0#8, by rw [hi]; rfl⟩)
  | tempError hi | tempCommit hi => exact .inr (.inr ⟨1#8, by rw [hi]; rfl⟩)
  | presError hi | presCommit hi => exact .inr (.inr ⟨2#8, by rw [hi]; rfl⟩)
  | clr hi => exact .inr (.inr ⟨3#8, by rw [hi]; rfl⟩)

/-- The row of a read (R96). -/
theorem row_decodeRead (r : Reg) :
    (decodeRead r).opMask = 0xFF00000000#40 ∧
    (decodeRead r).opMatch = Request.mk false (Reg.index r) 0#32 ∧
    ∀ e, (decodeRead r).withValue e = decodeRead r := by
  cases r <;> exact ⟨rfl, rfl, fun _ => rfl⟩

/-- The row of a register write, and its word (R96). -/
theorem row_decodeWrite {r : Reg} {d : Word} {i : Instr} (hr : (Reg.index r).toNat ≤ 13)
    (hi : decodeWrite r d = .ok i) :
    encode i = Request.mk true (Reg.index r) d ∧ i.opMask = 0xFF00000000#40 ∧
    i.opMatch = Request.mk true (Reg.index r) 0#32 ∧ ∀ e, decodeWrite r e = .ok (i.withValue e) := by
  cases r
  case t | p | cmd | status => exact absurd hr (by decide)
  all_goals cases hi; exact ⟨rfl, rfl, rfl, fun _ => rfl⟩

/-- The row of a command, and its word (R96). -/
theorem row_decodeCommand {c : Code} {i : Instr} (hi : decodeCommand c = .ok i) :
    encode i = Request.mk true (Reg.index .cmd) (c.setWidth 32) ∧ i.opMask = 0xFF000000FF#40 ∧
    i.opMatch = Request.mk true (Reg.index .cmd) (c.setWidth 32) ∧ ∀ e, i.withValue e = i := by
  obtain ⟨hc, e⟩ | ⟨hc, e⟩ | ⟨hc, e⟩ | ⟨hc, e⟩ | ⟨-, e⟩ := decodeCommand_cases c
  case inr.inr.inr.inr => cases e.symm.trans hi
  all_goals
    have hcode := BitVec.ofNat_toNat 8 c
    rw [hc, BitVec.setWidth_eq] at hcode
    subst hcode
    cases e.symm.trans hi
    exact ⟨rfl, rfl, rfl, fun _ => rfl⟩

/-! ### Encoding and decoding (R96) -/

/-- Settles O2, by the three shapes. -/
theorem decodeUndoesEncode : Obligations.DecodeUndoesEncode := by
  intro i _
  obtain ⟨r, rfl⟩ | ⟨r, d, hr, hi⟩ | ⟨c, hi⟩ := i.shape_cases
  · rw [encode_decodeRead, decode_mk_read]
  · obtain ⟨he, -⟩ := row_decodeWrite hr hi
    rw [he, decode_mk_write, hi]
  · obtain ⟨he, -⟩ := row_decodeCommand hi
    rw [he, decode_mk_write, decodeWrite, Word.code_setWidth, hi]

theorem decode_eq_read_iff (w : Request) (r : Reg) :
    decode w = .ok (decodeRead r) ↔ Request.isWrite w = false ∧ Request.idx w = Reg.index r := by
  refine ⟨fun h => ?_, fun ⟨hw, hr⟩ => decode_read hw (by rw [hr, Reg.ofIndex_index])⟩
  obtain ⟨hw, hr⟩ := encode_fields_of_decode h
  rw [encode_decodeRead, Request.isWrite_mk] at hw
  rw [encode_decodeRead, Request.idx_mk] at hr
  exact ⟨hw.symm, hr.symm⟩

/-- A write's word has W = 1 and the register's index, and the register's `decodeWrite` does the rest. -/
theorem decode_eq_write_iff (w : Request) {r : Reg} {d : Word} {i : Instr}
    (hi : decodeWrite r d = .ok i) :
    decode w = .ok i ↔ Request.isWrite w = true ∧ Request.idx w = Reg.index r ∧
      decodeWrite r (Request.data w) = .ok i := by
  have hd (hw : Request.isWrite w = true) (hr : Request.idx w = Reg.index r) :
      decode w = decodeWrite r (Request.data w) := decode_write hw (by rw [hr, Reg.ofIndex_index])
  refine ⟨fun h => ?_, fun ⟨hw, hr, h⟩ => (hd hw hr).trans h⟩
  obtain ⟨d', he⟩ := encode_of_decodeWrite hi
  obtain ⟨hw, hr⟩ := encode_fields_of_decode h
  rw [he, Request.isWrite_mk] at hw
  rw [he, Request.idx_mk] at hr
  exact ⟨hw.symm, hr.symm, (hd hw.symm hr.symm).symm.trans h⟩

theorem decodeCommand_injective {c c' : Code} {i : Instr} (h : decodeCommand c = .ok i)
    (h' : decodeCommand c' = .ok i) : c = c' := by
  obtain ⟨he, -⟩ := row_decodeCommand h
  obtain ⟨he', -⟩ := row_decodeCommand h'
  obtain ⟨-, -, hc⟩ := Request.mk_injective (he.symm.trans he')
  rw [← Word.code_setWidth c, hc, Word.code_setWidth]

/-- Settles O3, by the three shapes: both sides say the same of the fields of the word. -/
theorem decodeIsMatchAndMask : Obligations.DecodeIsMatchAndMask := by
  intro w i
  rw [Request.data_eq_ofNat]
  obtain ⟨r, rfl⟩ | ⟨r, d, hr, hi⟩ | ⟨c, hi⟩ := i.shape_cases
  · obtain ⟨hmask, hmatch, hval⟩ := row_decodeRead r
    rw [hmask, hmatch, hval, Request.and_firstByte_eq_iff, decode_eq_read_iff]
    exact (and_iff_left rfl).symm
  · obtain ⟨-, hmask, hmatch, hval⟩ := row_decodeWrite hr hi
    rw [hmask, hmatch, Request.and_firstByte_eq_iff, decode_eq_write_iff w hi, hval, Except.ok.injEq,
      and_assoc]
  · obtain ⟨-, hmask, hmatch, hval⟩ := row_decodeCommand hi
    have hcode : decodeCommand (Request.data w).code = .ok i ↔ (Request.data w).code = c :=
      ⟨fun h => decodeCommand_injective h hi, fun h => by rw [h, hi]⟩
    rw [hmask, hmatch, hval, Request.and_commandMask_eq_iff,
      decode_eq_write_iff w (r := .cmd) (d := c.setWidth 32) (by rw [decodeWrite, Word.code_setWidth, hi]),
      decodeWrite, hcode]
    exact (and_iff_left rfl).symm

/-! ### The rows are disjoint (R96) -/

theorem Instr.opMask_withValue (i : Instr) (d : Word) : (i.withValue d).opMask = i.opMask := by
  cases i <;> rfl

theorem Instr.opMatch_withValue (i : Instr) (d : Word) : (i.withValue d).opMatch = i.opMatch := by
  cases i <;> rfl

theorem Instr.withValue_withValue (i : Instr) (d e : Word) :
    (i.withValue d).withValue e = i.withValue e := by
  cases i <;> rfl

/-- A word that matches a row is that row's instruction with DATA as its operand. -/
theorem decode_of_match {w : Request} {i : Instr} (h : w &&& i.opMask = i.opMatch) :
    decode w = .ok (i.withValue (Request.data w)) := by
  rw [decodeIsMatchAndMask, Instr.opMask_withValue, Instr.opMatch_withValue, Instr.withValue_withValue,
    Request.data_eq_ofNat]
  exact ⟨h, rfl⟩

/-- Settles O4: the decoder answers one instruction, and it is that of both rows. -/
theorem rowsAreDisjoint : Obligations.RowsAreDisjoint := by
  intro w i j hi hj
  have h : i.withValue (Request.data w) = j.withValue (Request.data w) :=
    Except.ok.inj ((decode_of_match hi).symm.trans (decode_of_match hj))
  rw [← i.withValue_withValue (Request.data w), h, j.withValue_withValue]

/-- Settles O1: each word matches the row of its instruction. -/
theorem tableWordsDecodeToTheirRows : Obligations.TableWordsDecodeToTheirRows := by
  refine ⟨?_, ?_, ?_, ?_, ?_, ?_, ?_, ?_, ?_⟩
  all_goals exact (decodeIsMatchAndMask _ _).mpr (by decide)

/-! ### The reserved space (R97) -/

theorem Reg.ofIndex_eq_none_iff (i : RegIndex) : Reg.ofIndex i = none ↔ 18 ≤ i.toNat := by
  revert i
  decide

theorem decodeCommand_error_iff (c : Code) : (∃ e, decodeCommand c = .error e) ↔ 4 ≤ c.toNat := by
  obtain ⟨hc, h⟩ | ⟨hc, h⟩ | ⟨hc, h⟩ | ⟨hc, h⟩ | ⟨hc, h⟩ := decodeCommand_cases c
  all_goals simp [h, hc]

theorem decodeWrite_error_iff (r : Reg) (d : Word) :
    (∃ e, decodeWrite r d = .error e) ↔
      ((Reg.index r).toNat = 14 ∨ (Reg.index r).toNat = 15 ∨ (Reg.index r).toNat = 17) ∨
      ((Reg.index r).toNat = 16 ∧ 4 ≤ d.code.toNat) := by
  cases r
  case cmd => simp [decodeWrite, Reg.index, decodeCommand_error_iff]
  all_goals simp [decodeWrite, Reg.index]

/-- Settles O5, by W and by whether IDX names a register. -/
theorem reservedSpaceIsItsFourParts : Obligations.ReservedSpaceIsItsFourParts := by
  intro w
  have hcode : w.toNat % 256 = (Request.data w).code.toNat := by
    rw [Word.code_toNat, Request.data_toNat]; omega
  have hidx : w.toNat / 2 ^ 32 % 128 = (Request.idx w).toNat := (Request.idx_toNat w).symm
  simp only [hcode, hidx, ← Request.isWrite_eq_false_iff, ← Request.isWrite_eq_true_iff]
  rcases hr : Reg.ofIndex (Request.idx w) with _ | r
  · have h18 := (Reg.ofIndex_eq_none_iff _).mp hr
    rcases hw : Request.isWrite w with _ | _
    · simp [decode_reserved_read hw hr, h18]
    · simp [decode_reserved_write hw hr, h18]
  · have h18 : ¬ 18 ≤ (Request.idx w).toNat := by rw [← Reg.ofIndex_eq_none_iff, hr]; simp
    rcases hw : Request.isWrite w with _ | _
    · simp [decode_read hw hr, h18]
    · simp [decode_write hw hr, h18, decodeWrite_error_iff, Reg.index_of_ofIndex hr]

end Sys2Proof

namespace Sys2Proof.Machine

/-! ### Ignored bits (R98) -/

theorem performRequest_mk_read (i : RegIndex) (d : Word) (s : State) :
    performRequest (Request.mk false i d) s = .next ((memRead i s).2.respond (memRead i s).1) := by
  rw [performRequest_read (Request.isWrite_mk ..), Request.idx_mk]

theorem performRequest_mk_write (i : RegIndex) (d : Word) (s : State) :
    performRequest (Request.mk true i d) s = memWrite i d s := by
  rw [performRequest_write (Request.isWrite_mk ..), Request.idx_mk, Request.data_mk]

theorem State.writeReg_congr_low16 {r : Reg} (hr : (Reg.index r).toNat < 12) {d e : Word}
    (h : low16 d = low16 e) (s : State) : s.writeReg r d = s.writeReg r e := by
  cases r
  case up | b5 | t | p | cmd | status => exact absurd hr (by decide)
  all_goals simp only [State.writeReg, h]

/-- Settles O6: MemRead has no DATA, the command dispatch takes the code, and a 16-bit register takes DATA's low
half. -/
theorem ignoredBitsChangeNothing : Obligations.IgnoredBitsChangeNothing := by
  intro i d e s
  refine ⟨?_, fun hcode => ?_, fun hi hlow => ?_⟩
  · rw [performRequest_mk_read, performRequest_mk_read]
  · have h : d.code = e.code := BitVec.eq_of_toNat_eq (by rw [Word.code_toNat, hcode, Word.code_toNat])
    have hcmd (d : Word) : memWrite 16#7 d s = execCommand d.code s := rfl
    rw [performRequest_mk_write, performRequest_mk_write, hcmd, hcmd, h]
  · obtain ⟨r, rfl⟩ := Reg.exists_index_eq (i := i) (by omega)
    have h : low16 d = low16 e := BitVec.eq_of_toNat_eq (by rw [low16_toNat, hlow, low16_toNat])
    rw [performRequest_mk_write, performRequest_mk_write, memWrite_writable (by omega),
      memWrite_writable (by omega), State.writeReg_congr_low16 hi h]

/-! ### Assembler lines (R100) -/

theorem pattern32_toNat (v : Int) : ((pattern32 v).toNat : Int) = v % 2 ^ 32 := by
  rw [pattern32, BitVec.toNat_ofInt]
  omega

theorem low16_pattern32 (v : Int) : low16 (pattern32 v) = BitVec.ofInt 16 v := by
  have h := pattern32_toNat v
  apply BitVec.eq_of_toNat_eq
  rw [low16_toNat, BitVec.toNat_ofInt]
  omega

/-- `WR CMD, v` is the command of the code that `v` is modulo 256 (R164). -/
theorem decode_wrCmd {v : Int} {c : Code} (hv : v % 256 = c.toNat) :
    decode (AsmLine.encode (.wr 16 v)) = decodeCommand c := by
  have h := pattern32_toNat v
  have hc : (pattern32 v).code = c := BitVec.eq_of_toNat_eq (by rw [Word.code_toNat]; omega)
  rw [← hc]
  exact decode_mk_write .cmd (pattern32 v)

/-- Settles O53, field by field. -/
theorem assembledLinesHaveTheirFields : Obligations.AssembledLinesHaveTheirFields := by
  refine ⟨fun reg h => ?_, fun reg v h => ?_, fun v _ => ?_⟩
  · have hreg : reg ≤ 127 := by simpa [AsmLine.wf] using h
    rw [AsmLine.encode, Request.toNat_mk, BitVec.toNat_ofNat, Nat.mod_eq_of_lt (by omega)]
    simp
  · obtain ⟨hreg, -⟩ : reg ≤ 127 ∧ asmValueOk v = true := by simpa [AsmLine.wf] using h
    rw [AsmLine.encode, Request.toNat_mk, BitVec.toNat_ofNat, Nat.mod_eq_of_lt (by omega)]
    push_cast
    rw [pattern32_toNat]
    simp
  · exact ⟨decode_wrCmd (c := 0#8), decode_wrCmd (c := 1#8), decode_wrCmd (c := 2#8),
      decode_wrCmd (c := 3#8)⟩

/-! ### Pseudo-instructions (R101) -/

theorem performRequest_encode (i : Instr) (s : State) : performRequest (encode i) s = exec i s :=
  performRequest_instr (decodeUndoesEncode i i.wellFormed) s

theorem encode_asmWr (r : Reg) (v : Int) :
    AsmLine.encode (asmWr r v) = Request.mk true (Reg.index r) (pattern32 v) := by
  rw [asmWr, AsmLine.encode, BitVec.ofNat_toNat, BitVec.setWidth_eq]

theorem encode_asmRd (r : Reg) : AsmLine.encode (asmRd r) = Request.mk false (Reg.index r) 0#32 := by
  rw [asmRd, AsmLine.encode, BitVec.ofNat_toNat, BitVec.setWidth_eq]

theorem performRequest_asmWr {r : Reg} (hr : (Reg.index r).toNat ≤ 13) (v : Int) (s : State) :
    performRequest (AsmLine.encode (asmWr r v)) s = .next (s.writeReg r (pattern32 v)) := by
  rw [encode_asmWr, performRequest_mk_write, memWrite_writable hr]

theorem performRequest_asmRd (r : Reg) (s : State) :
    performRequest (AsmLine.encode (asmRd r)) s = .next (s.respond (readReg r s)) := by
  rw [encode_asmRd, performRequest_mk_read, memRead_index]

theorem performAll_append {ws : List Request} {s s' : State} (h : performAll ws s = .next s')
    (vs : List Request) : performAll (ws ++ vs) s = performAll vs s' := by
  induction ws generalizing s with
  | nil => cases h; rfl
  | cons w ws ih =>
    obtain ⟨t, ht⟩ := exists_performRequest w s
    rw [performAll_cons ht] at h
    rw [List.cons_append, performAll_cons ht, ih h]

theorem performAll_asmWr_cons {r : Reg} (hr : (Reg.index r).toNat ≤ 13) (v : Int) (ws : List Request)
    (s : State) : performAll (AsmLine.encode (asmWr r v) :: ws) s =
      performAll ws (s.writeReg r (pattern32 v)) :=
  performAll_cons (performRequest_asmWr hr v s) ws

theorem performAll_asmRd_cons (r : Reg) (ws : List Request) (s : State) :
    performAll (AsmLine.encode (asmRd r) :: ws) s = performAll ws (s.respond (readReg r s)) :=
  performAll_cons (performRequest_asmRd r s) ws

theorem performAll_convt {ut : Int} {s s' : State}
    (h : exec .temp { s with ut := BitVec.ofInt 16 ut } = .next s') :
    performAll ((AsmItem.convt ut).expand.map AsmLine.encode) s = .next s' := by
  rw [← low16_pattern32] at h
  exact (performAll_asmWr_cons (r := .ut) (by decide) ut _ s).trans
    (performAll_cons ((performRequest_encode .temp _).trans h) [])

theorem performAll_convp {up : Int} {s s' : State}
    (h : exec .pres { s with up := BitVec.ofInt 32 up } = .next s') :
    performAll ((AsmItem.convp up).expand.map AsmLine.encode) s = .next s' :=
  (performAll_asmWr_cons (r := .up) (by decide) up _ s).trans
    (performAll_cons ((performRequest_encode .pres _).trans h) [])

/-- Settles O54: each line of an expansion is a request, and CONV is CONVT and then CONVP. -/
theorem pseudoInstructionsDoWhatTheyExpandTo : Obligations.PseudoInstructionsDoWhatTheyExpandTo := by
  refine ⟨fun v s => ?_, fun ut up s s1 s2 ht hp => ?_, fun s => ?_⟩
  · simp only [← low16_pattern32]
    simp (disch := decide) only [AsmItem.expand, List.map_cons, List.map_nil, performAll_asmWr_cons]
    rfl
  · exact ⟨performAll_convt ht, performAll_convp hp,
      (performAll_append (performAll_convt ht) _).trans (performAll_convp hp)⟩
  · simp only [AsmItem.expand, List.map_cons, List.map_nil, performAll_asmRd_cons]
    simp [performAll, State.respond, readReg]

end Sys2Proof.Machine
end

section
/-! ## The arithmetic: stage results, shifts, dividers, crossings (spec/40_arithmetic.md)

A stage result is the number of its type congruent to the exact result (R121, R122). The shifts and the unsigned
divider are the floor division of the signed one (R125 to R128), so one floor lemma serves all four. A crossing
(R130) is a stage result whose exact result is already a number of the other type, and so at most one multiple
of 2^32 away. -/

namespace Sys2Proof.Machine

/-! ### Stage results (R121, R122) -/

theorem s32_congruent (r : Int) : 4294967296 ∣ (s32 r).val - r := Int.dvd_bmod_sub_self

theorem u32_congruent (r : Int) : 4294967296 ∣ (u32 r).val - r := Int.dvd_emod_sub_self

theorem Status.recordRange_singleton (f : Status) (x : StageResult) :
    f.recordRange [x] = { f with ovf := f.ovf || x.above, unf := f.unf || x.below } := by
  simp [Status.recordRange]

/-- Settles O32, from the range, the congruence and the two flags of each type. -/
theorem stageResultsWrapAndReport : Obligations.StageResultsWrapAndReport := by
  intro r
  obtain ⟨hs1, hs2⟩ := s32_range r
  obtain ⟨hu1, hu2⟩ := u32_range r
  exact ⟨⟨hs1, hs2, s32_congruent r⟩, s32_above_iff r, s32_below_iff r, s32_val_of_range,
    ⟨hu1, hu2, u32_congruent r⟩, u32_above_iff r, u32_below_iff r, u32_val_of_range,
    fun f => f.recordRange_singleton (s32 r), fun f => f.recordRange_singleton (u32 r)⟩

/-! ### Dividers (R127, R128) -/

theorem udiv_eq_fdiv (a b : Int) : udiv a b = fdiv a b := rfl

theorem fdiv_neg_neg (a b : Int) : fdiv (-a) (-b) = fdiv a b := Int.neg_fdiv_neg a b

theorem fdiv_floor {b : Int} (hb : 0 < b) (a : Int) :
    fdiv a b * b ≤ a ∧ a < (fdiv a b + 1) * b := by
  rw [← udiv_eq_fdiv, udiv_eq hb.le]
  exact ⟨Int.ediv_mul_le a hb.ne', Int.lt_ediv_add_one_mul_self a hb⟩

/-- A quotient by a negative divisor is that of the negated operands. -/
theorem fdiv_floor_of_neg {b : Int} (hb : b < 0) (a : Int) :
    a ≤ fdiv a b * b ∧ (fdiv a b + 1) * b < a := by
  obtain ⟨hle, hlt⟩ := fdiv_floor (b := -b) (by omega) (-a)
  rw [fdiv_neg_neg, mul_neg] at hle hlt
  omega

/-- Rounding down by a positive divisor stays in any range around 0. -/
theorem fdiv_mem_range {a b lo hi : Int} (hb : 0 < b) (hlo : lo ≤ 0) (hhi : 0 ≤ hi)
    (ha : lo ≤ a ∧ a ≤ hi) : lo ≤ fdiv a b ∧ fdiv a b ≤ hi := by
  obtain ⟨hle, hlt⟩ := fdiv_floor hb a
  constructor
  · by_contra! h
    nlinarith only [h, hlt, ha.1, hlo, hb]
  · by_contra! h
    nlinarith only [h, hle, ha.2, hhi, hb]

/-- Settles O34, by the sign of the divisor. -/
theorem dividersRoundDown : Obligations.DividersRoundDown := by
  refine ⟨fun a b hb => fdiv_floor hb a, fun a b hb => fdiv_floor_of_neg hb a, fun a b ha hb => ?_⟩
  obtain ⟨hle, hlt⟩ := fdiv_floor hb a
  exact ⟨hle, hlt, fdiv_mem_range hb le_rfl ha ⟨ha, le_rfl⟩⟩

/-! ### Shifts (R125, R126) -/

theorem asr_eq_fdiv (v : Int) (n : Nat) : asr v n = fdiv v (2 ^ n) := rfl

theorem lsr_eq_fdiv (v : Int) (n : Nat) : lsr v n = fdiv v (2 ^ n) := rfl

/-- Settles O33: both shifts are the signed divider's floor at the divisor 2^n. -/
theorem shiftsRoundDown : Obligations.ShiftsRoundDown := by
  intro v n
  have hn : (0 : Int) < 2 ^ n := by positivity
  obtain ⟨hle, hlt⟩ := fdiv_floor hn v
  rw [asr_eq_fdiv, lsr_eq_fdiv]
  exact ⟨hle, hlt, hle, hlt, fdiv_mem_range hn (by decide) (by decide),
    fdiv_mem_range hn le_rfl (by decide)⟩

/-! ### Crossings between the signed and the unsigned path (R130) -/

theorem pattern32_u32 (r : Int) : pattern32 (u32 r).val = pattern32 r := by
  have h := pattern32_toNat (u32 r).val
  have h' := pattern32_toNat r
  have hc := u32_congruent r
  apply BitVec.eq_of_toNat_eq
  omega

theorem pattern32_sub_sext32 (v : Word) (r : Int) : pattern32 (sext32 v - r) = v - pattern32 r := by
  apply BitVec.eq_of_toInt_eq
  simp [pattern32, sext32, BitVec.toInt_sub, BitVec.toInt_ofInt]

/-- A negative number of the signed path goes up by 2^32. -/
theorem u32_crossing_neg {r : Int} (h : -2147483648 ≤ r ∧ r < 0) :
    (u32 r).val = r + 4294967296 ∧ (u32 r).below = true := by
  have hrange := u32_range r
  have hc := u32_congruent r
  exact ⟨by omega, (u32_below_iff r).mpr h.2⟩

/-- A number of the unsigned path with its top bit set goes down by 2^32. -/
theorem s32_crossing_high {r : Int} (h : 2147483648 ≤ r ∧ r ≤ 4294967295) :
    (s32 r).val = r - 4294967296 ∧ (s32 r).above = true := by
  have hrange := s32_range r
  have hc := s32_congruent r
  exact ⟨by omega, (s32_above_iff r).mpr (by omega)⟩

/-- The quotient of either branch of stage P12 is a number of the unsigned path. -/
theorem Pres.pQ0_range {c : Coefficients} {b5 : Word} (h4 : Pres.pB4 c b5 ≠ 0) (up : Word) :
    0 ≤ Pres.pQ0 c b5 up ∧ Pres.pQ0 c b5 up ≤ 4294967295 := by
  have hpos : 0 < Pres.pB4 c b5 := lt_of_le_of_ne (Pres.pB4_range c b5).1 h4.symm
  unfold Pres.pQ0
  split
  · exact fdiv_mem_range hpos le_rfl (by decide) (u32_range _)
  · exact u32_range _

/-- Settles O28, stage by stage: P10 and P12 by the side of the boundary the value is on, P11 by its pattern. -/
theorem signedUnsignedCrossings : Obligations.SignedUnsignedCrossings := by
  intro c b5 up
  obtain ⟨hV, hV'⟩ : -2147483648 ≤ (Pres.pV c b5).val ∧ (Pres.pV c b5).val ≤ 2147483647 := s32_range _
  refine ⟨fun h => u32_crossing_neg ⟨hV, h⟩, fun h => ?_,
    (pattern32_u32 _).trans (pattern32_sub_sext32 up _), u32_below_iff _, u32_above_iff _,
    fun h4 => ⟨fun h => ?_, fun h => ?_⟩⟩
  · have hr : 0 ≤ (Pres.pV c b5).val ∧ (Pres.pV c b5).val ≤ 4294967295 := ⟨h, by omega⟩
    exact ⟨u32_val_of_range hr, (u32_flags_of_range hr).2⟩
  · exact s32_crossing_high ⟨h, (Pres.pQ0_range h4 up).2⟩
  · have hr : -2147483648 ≤ Pres.pQ0 c b5 up ∧ Pres.pQ0 c b5 up ≤ 2147483647 := by
      have := (Pres.pQ0_range h4 up).1
      omega
    exact ⟨s32_val_of_range hr, (s32_flags_of_range hr).1⟩

end Sys2Proof.Machine
end

section
/-! ## The commands and requests: reads, writes, NOP, CLR, the reserved request, one step (spec/41_commands.md)

A RD, a WR and a command have the effect of their instruction, said once above for every register; here stand
the same next states in the form of R66, R67 and R165 to R167. A reserved word has one next state whatever its
part of the reserved space, and its W field alone says whether it is answered. -/

namespace Sys2Proof.Machine

/-! ### The reserved request (R167) -/

theorem State.reservedRequest_eq {w : Request} {r : Reserved} (h : decode w = .error r) (s : State) :
    s.reservedRequest r = { s with
      status := { s.status with ill := true }
      responses := if w.toNat / 2 ^ 39 = 0 then s.responses ++ [0#32] else s.responses } := by
  have hr := decode_error_isRead h
  rcases hw : Request.isWrite w with _ | _ <;> rw [hw] at hr
  · rw [ite_of_read hw]
    simp only [State.reservedRequest, hr]
    rfl
  · rw [ite_of_write hw]
    simp only [State.reservedRequest, hr]
    rfl

/-- Settles O15: the word lies in one of the four parts of R97, and over a step that is neither CLR nor reset ILL
stays set. -/
theorem reservedRequestSetsIll : Obligations.ReservedRequestSetsIll := by
  refine ⟨fun w s h => ?_, fun s s' h hset hcleared => ?_⟩
  · have hW : w.toNat / 2 ^ 39 < 2 := Nat.div_lt_of_lt_mul w.isLt
    obtain ⟨r, hr⟩ := (reservedSpaceIsItsFourParts w).mpr (by omega)
    rw [performRequest_reserved hr, State.reservedRequest_eq hr]
  · exact stickyFlagsAreClearedByClrOrReset s s' h (.inr (.inr ⟨hset, hcleared⟩))

/-! ### NOP and CLR (R164 to R166) -/

/-- A word whose first byte is that of `WR CMD` is the command of its code. -/
theorem decode_commandWord {w : Request} {c : Code} (hfirst : w.toNat / 2 ^ 32 = 0x90)
    (hcode : w.toNat % 256 = c.toNat) : decode w = decodeCommand c := by
  have hw : Request.isWrite w = true := (Request.isWrite_eq_true_iff w).mpr (by omega)
  have hidx : Request.idx w = Reg.index .cmd :=
    BitVec.eq_of_toNat_eq (by rw [Request.idx_toNat, hfirst]; rfl)
  have hc : (Request.data w).code = c :=
    BitVec.eq_of_toNat_eq (by rw [Word.code_toNat, Request.data_toNat]; omega)
  rw [decode_write hw (by rw [hidx, Reg.ofIndex_index]), decodeWrite, hc]

/-- Settles O13: the words are the command of code 0, and the effect of NOP is the state itself. -/
theorem nopChangesNothing : Obligations.NopChangesNothing :=
  ⟨fun _ hfirst hcode => decode_commandWord (c := 0#8) hfirst hcode, fun _ => (Effect.nop rfl).exec_eq⟩

theorem exec_clr (s : State) : exec .clr s = .next s.acknowledge := (Effect.clr rfl).exec_eq

theorem State.acknowledge_acknowledge (s : State) : s.acknowledge.acknowledge = s.acknowledge := rfl

/-- Settles O14: CLR is the acknowledgement, which is idempotent. -/
theorem clrClearsFiveFlags : Obligations.ClrClearsFiveFlags := by
  refine ⟨fun w hfirst hcode => decode_commandWord (c := 3#8) hfirst hcode, exec_clr, fun s s' h => ?_⟩
  rw [exec_clr] at h
  cases h
  rw [exec_clr, State.acknowledge_acknowledge]

/-! ### One step (R160, R285) -/

theorem step_request {s : State} {w : Request} {rest : List PortEvent}
    (hp : s.port = .request w :: rest) : step s = performRequest w (s.withPort rest) := by
  simp only [step, hp]

theorem step_idle {s : State} (hp : s.port = []) : step s = .next s := by
  simp only [step, hp, idle]

/-- Settles O36, from the reserved request on the state with the word taken from the port. -/
theorem stepOnReservedWordOrIdle : Obligations.StepOnReservedWordOrIdle := by
  refine ⟨fun s w rest r hp hd => ?_, fun s => step_idle⟩
  rw [step_request hp, performRequest_reserved hd, State.reservedRequest_eq hd]
  rfl

/-- Settles O35: a step performs the first word, and performing a word runs the instruction it decodes to. -/
theorem stepRunsTheDecodedInstruction : Obligations.StepRunsTheDecodedInstruction :=
  fun s _ rest _ hp hd => (step_request hp).trans (performRequest_instr hd (s.withPort rest))

/-- Settles O37, from the effect that every instruction has. -/
theorem everyStepCompletes : Obligations.EveryStepCompletes :=
  ⟨fun i s => (exists_effect i s).imp fun _ he => he.exec_eq, exists_step⟩

/-! ### RD (R161, R66, R27) -/

theorem readS16_eq_ofInt (v : Half) : readS16 v = BitVec.ofInt 32 v.toInt := rfl

theorem readU16_eq_ofNat (v : Half) : readU16 v = BitVec.ofNat 32 v.toNat := (BitVec.ofNat_toNat 32 v).symm

/-- Settles O7: the response is the extension that the register's type asks for. -/
theorem readsOf16BitRegistersExtend : Obligations.ReadsOf16BitRegistersExtend := by
  intro s
  simp only [← readS16_eq_ofInt, ← readU16_eq_ofNat]
  exact ⟨exec_decodeRead .ac1 s, exec_decodeRead .ac2 s, exec_decodeRead .ac3 s, exec_decodeRead .ac4 s,
    exec_decodeRead .ac5 s, exec_decodeRead .ac6 s, exec_decodeRead .b1 s, exec_decodeRead .b2 s,
    exec_decodeRead .mb s, exec_decodeRead .mc s, exec_decodeRead .md s, exec_decodeRead .ut s⟩

theorem toNat_append_ofBool {n : Nat} (v : BitVec n) (b : Bool) :
    (v ++ BitVec.ofBool b).toNat = v.toNat * 2 + b.toNat := BitVec.toNat_concat v b

theorem Status.toWord_toNat (f : Status) :
    f.toWord.toNat = f.tv.toNat + 2 * f.pv.toNat + 4 * f.terr.toNat + 8 * f.perr.toNat
      + 16 * f.b7hi.toNat + 32 * f.ovf.toNat + 64 * f.unf.toNat + 128 * f.ill.toNat := by
  simp only [Status.toWord, toNat_append_ofBool, BitVec.toNat_ofNat]
  omega

/-- Settles O8: each response is the register's value, and STATUS is the sum of its flags' weights. -/
theorem readsOf32BitRegistersCmdAndStatus : Obligations.ReadsOf32BitRegistersCmdAndStatus := fun s =>
  ⟨exec_decodeRead .up s, exec_decodeRead .b5 s, exec_decodeRead .t s, exec_decodeRead .p s,
    exec_decodeRead .cmd s, s.status.toWord, exec_decodeRead .status s, s.status.toWord_toNat⟩

/-! ### WR (R162, R67) -/

theorem low16_eq_ofNat (d : Word) : low16 d = BitVec.ofNat 16 d.toNat := rfl

/-- Settles O9: each instruction writes the coefficient of its register. -/
theorem writesOfCoefficientsStoreLow16 : Obligations.WritesOfCoefficientsStoreLow16 := by
  intro s v
  have hwrite (r : Reg) {i : Instr} (hr : (Reg.index r).toNat ≤ 10) (hi : decodeWrite r v = .ok i) :=
    exec_writeCoefficient hr hi s
  simp only [← low16_eq_ofNat]
  exact ⟨hwrite .ac1 (by decide) rfl, hwrite .ac2 (by decide) rfl, hwrite .ac3 (by decide) rfl,
    hwrite .ac4 (by decide) rfl, hwrite .ac5 (by decide) rfl, hwrite .ac6 (by decide) rfl,
    hwrite .b1 (by decide) rfl, hwrite .b2 (by decide) rfl, hwrite .mb (by decide) rfl,
    hwrite .mc (by decide) rfl, hwrite .md (by decide) rfl⟩

/-- Settles O10, from the effects of the three writes. -/
theorem writesOfSampleAndB5 : Obligations.WritesOfSampleAndB5 := fun _ v =>
  ⟨(Effect.writeUt v rfl).exec_eq, (Effect.writeUp v rfl).exec_eq, (Effect.writeB5 v rfl).exec_eq⟩

end Sys2Proof.Machine
end

section
/-! ## TEMP: next state, stage ranges, frame, purity (spec/42_temperature.md)

Stages T1 to T5 record UNF at most, and the later stages record nothing (R200), so each outcome of TEMP has one
next state with its fields written out. The frame and the purity are read off these two states. -/

namespace Sys2Proof.Machine

/-! ### The next state (R190 to R199, R274) -/

theorem State.recordRange_tempBefore (s : State) :
    s.recordRange (Temp.beforeCheck s.cal s.ut) = { s with status := { s.status with
      unf := s.status.unf || decide (Wrapped.product s.cal s.ut < -2147483648) } } :=
  congrArg s.withStatus (Status.recordRange_tempBefore s.cal s.ut s.status)

/-- Only the stages before the zero check can set a flag (R200). -/
theorem State.recordRange_tempStages (s : State) :
    s.recordRange (Temp.beforeCheck s.cal s.ut ++ Temp.afterCheck s.cal s.ut) =
      s.recordRange (Temp.beforeCheck s.cal s.ut) := by
  simp only [State.recordRange]
  rw [← Status.recordRange_append, Status.recordRange_of_clean _ _ (Temp.afterCheck_clean s.cal s.ut)]

theorem exec_temp_of_divisor_eq_zero {s : State} (h0 : Wrapped.divisor s.cal s.ut = 0) :
    exec .temp s = .next { s with status := { s.status with
      terr := true
      tv := false
      unf := s.status.unf || decide (Wrapped.product s.cal s.ut < -2147483648) } } := by
  rw [(Effect.tempError rfl h0).exec_eq, State.recordRange_tempBefore]
  rfl

theorem exec_temp_of_divisor_ne_zero {s : State} (h0 : Wrapped.divisor s.cal s.ut ≠ 0) :
    exec .temp s = .next { s with
      b5 := pattern32 (Wrapped.b5 s.cal s.ut)
      t := pattern32 ((Wrapped.b5 s.cal s.ut + 8) / 16)
      status := { s.status with
        tv := true
        terr := false
        unf := s.status.unf || decide (Wrapped.product s.cal s.ut < -2147483648) } } := by
  rw [(Effect.tempCommit rfl h0).exec_eq, State.recordRange_tempStages, State.recordRange_tempBefore]
  rfl

/-- Settles O16: the committing effect, with the flags its stages record. -/
theorem tempCommitsBothResults : Obligations.TempCommitsBothResults :=
  fun _ h0 => exec_temp_of_divisor_ne_zero h0

/-! ### The ranges of the stages (R200) -/

/-- The exact result of stage T2 is the reference product, since stage T1 is exact. -/
theorem Temp.tD_mul_ac5 (c : Coefficients) (ut : Half) :
    (Temp.tD c ut).val * c.ac5.toNat = Wrapped.product c ut := by
  rw [(Temp.tD_val c ut).1, Wrapped.product]

theorem Wrapped.product_range (c : Coefficients) (ut : Half) :
    -6442287105 ≤ Wrapped.product c ut ∧ Wrapped.product c ut ≤ 2147385345 :=
  product_bounds _ _ (Temp.tD_val c ut).2 (zext16_range c.ac5)

theorem Temp.tT_range {c : Coefficients} {ut : Half} (h0 : Wrapped.divisor c ut ≠ 0) :
    -4198400 ≤ Temp.tT c ut ∧ Temp.tT c ut ≤ 4198400 := by
  obtain ⟨-, hlo, hhi⟩ := Temp.tB5_val c ut h0
  rw [Temp.tT_val c ut h0]
  omega

/-- Settles O18: each stage is its reference value with that value's range, and of the flags only T2's UNF can
be set. -/
theorem tempStageRanges : Obligations.TempStageRanges := by
  intro c ut
  obtain ⟨hD, hDrange⟩ := Temp.tD_val c ut
  obtain ⟨hN, hNrange⟩ := Temp.tN_val c
  obtain ⟨hS, hSrange⟩ := Temp.tS_val c ut
  obtain ⟨habove, hbelow⟩ := Temp.tM_flags c ut
  rw [Temp.tD_mul_ac5, Temp.tX1_val, hD, hN, hS]
  refine ⟨hDrange, Wrapped.product_range c ut, Wrapped.x1_range c ut, hNrange, hSrange, fun h0 => ?_,
    by rw [hbelow, decide_eq_true_iff], habove, fun x hx => ?_⟩
  · obtain ⟨hX2, hX2range⟩ := Temp.tX2_val c ut h0
    obtain ⟨hB5, hB5range⟩ := Temp.tB5_val c ut h0
    rw [hX2, hB5]
    exact ⟨hX2range, hB5range, Temp.tT_range h0⟩
  · obtain hbefore | hafter := List.mem_append.mp hx
    · exact Temp.beforeCheck_clean c ut x hbefore
    · exact Temp.afterCheck_clean c ut x hafter

/-! ### The frame (R190) -/

/-- Whichever way it ends, TEMP writes B5, T, TV, TERR and UNF and nothing else. -/
theorem exec_temp_frame {s s' : State} (h : exec .temp s = .next s') :
    ∃ b5 t tv terr, s' = { s with b5 := b5, t := t, status := { s.status with
      tv := tv
      terr := terr
      unf := s.status.unf || decide (Wrapped.product s.cal s.ut < -2147483648) } } := by
  by_cases h0 : Wrapped.divisor s.cal s.ut = 0
  · rw [exec_temp_of_divisor_eq_zero h0] at h
    cases h
    exact ⟨_, _, _, _, rfl⟩
  · rw [exec_temp_of_divisor_ne_zero h0] at h
    cases h
    exact ⟨_, _, _, _, rfl⟩

theorem readReg_setB5_setT_of_ne {r : Reg} (hb5 : r ≠ .b5) (ht : r ≠ .t) (s : State) (b5 t : Word) :
    readReg r ((s.setB5 b5).setT t) = readReg r s := by
  cases r
  case b5 => exact absurd rfl hb5
  case t => exact absurd rfl ht
  all_goals rfl

/-- Settles O19, from the frame of the whole state. -/
theorem tempFrame : Obligations.TempFrame := by
  intro s s' h
  obtain ⟨b5, t, tv, terr, rfl⟩ := exec_temp_frame h
  refine ⟨rfl, rfl, rfl, rfl, rfl, rfl, rfl, rfl, rfl, fun hunf => by simp [hunf], rfl, rfl,
    fun r hb5 ht hstatus => ?_⟩
  exact (readReg_withStatus hstatus ((s.setB5 b5).setT t) _).trans (readReg_setB5_setT_of_ne hb5 ht s b5 t)

/-! ### Purity (R201) -/

/-- TV, TERR and, after a commit, B5 and T, from the coefficients and the raw temperature alone. -/
theorem exec_temp_results {s s' : State} (h : exec .temp s = .next s') :
    s'.status.tv = !decide (Wrapped.divisor s.cal s.ut = 0) ∧
    s'.status.terr = decide (Wrapped.divisor s.cal s.ut = 0) ∧
    (s'.status.tv = true →
      s'.b5 = pattern32 (Wrapped.b5 s.cal s.ut) ∧ s'.t = pattern32 ((Wrapped.b5 s.cal s.ut + 8) / 16)) := by
  by_cases h0 : Wrapped.divisor s.cal s.ut = 0
  · rw [exec_temp_of_divisor_eq_zero h0] at h
    cases h
    simp [h0]
  · rw [exec_temp_of_divisor_ne_zero h0] at h
    cases h
    simp [h0]

theorem Wrapped.x1_congr {c c' : Coefficients} (h5 : c.ac5 = c'.ac5) (h6 : c.ac6 = c'.ac6) (ut : Half) :
    Wrapped.x1 c ut = Wrapped.x1 c' ut := by
  simp only [Wrapped.x1, Wrapped.product, h5, h6]

/-- The second TEMP finds the same inputs and records the same UNF, which is sticky. -/
theorem exec_temp_idem {s s' : State} (h : exec .temp s = .next s') : exec .temp s' = .next s' := by
  by_cases h0 : Wrapped.divisor s.cal s.ut = 0
  · rw [exec_temp_of_divisor_eq_zero h0] at h
    cases h
    refine (exec_temp_of_divisor_eq_zero ?_).trans ?_
    · exact h0
    · simp only [Bool.or_assoc, Bool.or_self]
  · rw [exec_temp_of_divisor_ne_zero h0] at h
    cases h
    refine (exec_temp_of_divisor_ne_zero ?_).trans ?_
    · exact h0
    · simp only [Bool.or_assoc, Bool.or_self]

/-- Settles O20: the results are those of the divisor and of B5, which read the five inputs alone. -/
theorem tempIsPure : Obligations.TempIsPure := by
  refine ⟨fun s1 s2 s1' s2' hut h5 h6 hmc hmd h1 h2 => ?_, fun s s' h => ?_⟩
  · obtain ⟨htv1, hterr1, hres1⟩ := exec_temp_results h1
    obtain ⟨htv2, hterr2, hres2⟩ := exec_temp_results h2
    have hdivisor : Wrapped.divisor s1.cal s1.ut = Wrapped.divisor s2.cal s2.ut := by
      rw [Wrapped.divisor, Wrapped.divisor, Wrapped.x1_congr h5 h6, hmd, hut]
    have hb5 : Wrapped.b5 s1.cal s1.ut = Wrapped.b5 s2.cal s2.ut := by
      rw [Wrapped.b5, Wrapped.b5, hdivisor, Wrapped.x1_congr h5 h6, hmc, hut]
    rw [hdivisor] at htv1 hterr1
    rw [hb5] at hres1
    have htv := htv1.trans htv2.symm
    refine ⟨htv, hterr1.trans hterr2.symm, fun hset => ?_⟩
    obtain ⟨hb5_1, ht1⟩ := hres1 hset
    obtain ⟨hb5_2, ht2⟩ := hres2 (htv ▸ hset)
    exact ⟨hb5_1.trans hb5_2.symm, ht1.trans ht2.symm⟩
  · obtain ⟨hcal, hut, -⟩ := tempFrame s s' h
    exact ⟨hut, hcal, exec_temp_idem h⟩

end Sys2Proof.Machine
end

section
/-! ## PRES: next state, flags of the stages, quotient, frame, purity (spec/43_pressure.md)

Stages P1 to P11 record their flags on both outcomes, stages P12 to P15 only on a commit, so each outcome of
PRES has one next state with its fields written out. The flags and ranges of single stages are those of their
exact results. The frame and the purity are read off the two next states. -/

namespace Sys2Proof.Machine

/-! ### Arithmetic: flags that stay clear, a quotient doubled -/

theorem s32_above_eq_false {r : Int} (h : r ≤ 2147483647) : (s32 r).above = false :=
  Bool.eq_false_iff.mpr (mt (s32_above_iff r).mp h.not_gt)

theorem u32_above_eq_false {r : Int} (h : r ≤ 4294967295) : (u32 r).above = false :=
  Bool.eq_false_iff.mpr (mt (u32_above_iff r).mp h.not_gt)

theorem s32_square_below (x : Int) : (s32 (x * x)).below = false :=
  Bool.eq_false_iff.mpr fun h => by
    have := (s32_below_iff _).mp h
    have := mul_self_nonneg x
    omega

/-- Doubling a quotient by a divisor other than 1 does not exceed the dividend. -/
theorem ediv_mul_two_le {a b : Int} (ha : 0 ≤ a) (hb : 2 ≤ b) : a / b * 2 ≤ a :=
  calc a / b * 2 ≤ a / b * b := Int.mul_le_mul_of_nonneg_left hb (Int.ediv_nonneg ha (by omega))
    _ ≤ a := Int.ediv_mul_le a (by omega)

/-- Doubling before the division gains one exactly when twice the remainder reaches the divisor. -/
theorem two_mul_ediv {b : Int} (hb : 0 < b) (a : Int) :
    2 * a / b = 2 * (a / b) + if b ≤ 2 * (a % b) then 1 else 0 := by
  have ha := Int.emod_add_mul_ediv a b
  have hr := Int.emod_nonneg a hb.ne'
  have hlt := Int.emod_lt_of_pos a hb
  have hdouble : 2 * a = 2 * (a % b) + b * (2 * (a / b)) := by linarith
  have hfloor : 2 * (a % b) / b = if b ≤ 2 * (a % b) then 1 else 0 := by
    split
    · have hone := (Int.ediv_emod_unique (a := 2 * (a % b)) (r := 2 * (a % b) - b) (q := 1) hb).mpr
        ⟨by ring, by omega, by omega⟩
      exact hone.1
    · exact Int.ediv_eq_zero_of_lt (by omega) (by omega)
  rw [hdouble, Int.add_mul_ediv_left _ _ hb.ne', hfloor, add_comm]

/-! ### The next state (R220 to R237, R274) -/

theorem State.recordRange_presBefore (s : State) :
    s.recordRange (Pres.beforeCheck s.cal s.b5 s.up) = { s with status := { s.status with
      ovf := s.status.ovf || Wrapped.ovfBefore s.cal s.b5 s.up
      unf := s.status.unf || Wrapped.unfBefore s.cal s.b5 s.up } } :=
  congrArg s.withStatus (Status.recordRange_presBefore s.cal s.b5 s.up s.status)

theorem State.recordRange_presStages {s : State} (h4 : Wrapped.b4 s.cal s.b5 ≠ 0) :
    s.recordRange (Pres.beforeCheck s.cal s.b5 s.up ++ Pres.afterCheck s.cal s.b5 s.up) =
      { s with status := { s.status with
        ovf := s.status.ovf || (Wrapped.ovfBefore s.cal s.b5 s.up || Wrapped.ovfAfter s.cal s.b5 s.up)
        unf := s.status.unf || (Wrapped.unfBefore s.cal s.b5 s.up || Wrapped.unfAfter s.cal s.b5 s.up) } } := by
  simp only [State.recordRange, ← Status.recordRange_append, Status.recordRange_presBefore,
    Status.recordRange_presAfter _ _ _ _ h4, Bool.or_assoc]
  rfl

/-- The pattern that stage P16 stores, from the formula (R235, R236). -/
theorem pattern32_pP (c : Coefficients) (b5 up : Word) :
    pattern32 (Pres.pP (Pres.p0 c b5 up).val).val =
      BitVec.ofInt 32 (Wrapped.corrected (Wrapped.p0 c b5 up)) := by
  rw [Pres.pP_val, pattern32_wrapS32, Pres.p0_val]

theorem exec_pres_of_b4_eq_zero {s : State} (h4 : Wrapped.b4 s.cal s.b5 = 0) :
    exec .pres s = .next { s with status := { s.status with
      perr := true
      pv := false
      ovf := s.status.ovf || Wrapped.ovfBefore s.cal s.b5 s.up
      unf := s.status.unf || Wrapped.unfBefore s.cal s.b5 s.up } } := by
  rw [(Effect.presError rfl h4).exec_eq, State.recordRange_presBefore]
  rfl

/-- Settles O22: the committing effect, with the flags its stages record and the value they compute. -/
theorem presCommitsThePressure : Obligations.PresCommitsThePressure := by
  intro s h4
  rw [(Effect.presCommit rfl h4).exec_eq, State.recordRange_presStages h4, pattern32_pP, Pres.hi_iff]
  rfl

/-! ### The ranges of the stages, and the stages that set no flag (R225, R226, R229, R230, R232, R235) -/

/-- With OSS = 0 the scaling of stage P6 is the identity (R226). -/
theorem Pres.pH_eq (c : Coefficients) (b5 : Word) : Pres.pH c b5 = s32 (Pres.pG c b5).val :=
  congrArg s32 (mul_one _)

theorem Pres.pV_eq (c : Coefficients) (b5 : Word) : (Pres.pV c b5).val = Pres.pX3b c b5 + 32768 := by
  rw [Pres.pV_val, Pres.pX3b_val]

/-- The stages of R237 that set no flag: the exact result of each lies in s32. -/
theorem Pres.exactStages_clean (c : Coefficients) (b5 : Word) (p0 : Int) :
    ∀ x ∈ [Pres.pX3a c b5, Pres.pE c, Pres.pG c b5, Pres.pH c b5, Pres.pI c b5, Pres.pL c b5,
      Pres.pN c b5, Pres.pV c b5, Pres.pZ1 p0, Pres.pZ2 p0], x.above = false ∧ x.below = false := by
  have hX1a := Pres.pX1a_range c b5
  have hX2a := Pres.pX2a_range c b5
  have hX1b := Pres.pX1b_range c b5
  have hX2b := Pres.pX2b_range c b5
  have hX3b := Pres.pX3b_range c b5
  have hX1c := Pres.pX1c_range p0
  have hX2c := Pres.pX2c_range p0
  have hac1 := sext16_range c.ac1
  have hE := Pres.pE_val c
  have hX3a := Pres.pX3a_val c b5
  have hG := Pres.pG_val c b5
  have hH := Pres.pH_val c b5
  have hL := Pres.pL_val c b5
  have hZ1 := Pres.pZ1_val p0
  simp only [List.forall_mem_cons, List.not_mem_nil, false_implies, implies_true, and_true, Pres.pH_eq]
  refine ⟨?_, ?_, ?_, ?_, ?_, ?_, ?_, ?_, ?_, ?_⟩ <;> exact s32_flags_of_range (by omega)

/-- Settles O24, from the ranges of the shifted terms and the exact sums of them. -/
theorem presStagesThatCannotFlag : Obligations.PresStagesThatCannotFlag := by
  intro c b5 up p0 _ _
  obtain ⟨hE, hErange⟩ := Pres.pE_val c
  have hX3b := Pres.pX3b_range c b5
  rw [hE, Pres.pV_eq]
  exact ⟨Pres.pX1a_range c b5, Pres.pX2a_range c b5, hErange, Pres.pX1b_range c b5, Pres.pX2b_range c b5,
    hX3b, by omega, Pres.pX1c_range p0, Pres.pX2c_range p0,
    fun hlow => Pres.pDoubled_exact c b5 up (not_le.mp (of_decide_eq_false hlow)),
    Pres.exactStages_clean c b5 p0⟩

/-! ### B4 (R230) -/

theorem Pres.pB4_eq (c : Coefficients) (b5 : Word) :
    Pres.pB4 c b5 = c.ac4.toNat * (Pres.pU c b5).val % 4294967296 / 32768 := lsr_eq _ _

theorem Pres.pB4_pos {c : Coefficients} {b5 : Word} (h4 : Pres.pB4 c b5 ≠ 0) : 0 < Pres.pB4 c b5 :=
  lt_of_le_of_ne (Pres.pB4_range c b5).1 h4.symm

/-- Settles O26: B4 is the product shifted right by 15. -/
theorem b4IsZeroExactlyBelow32768 : Obligations.B4IsZeroExactlyBelow32768 := by
  intro c b5
  obtain ⟨hlo, hhi⟩ := Pres.pB4_range c b5
  refine ⟨hlo, hhi, ?_⟩
  rw [Pres.pB4_eq]
  omega

/-! ### The quotient (R232) -/

theorem Pres.quotientHigh_eq (c : Coefficients) (b5 up : Word) :
    Pres.quotientHigh c b5 up = u32 ((Pres.pB7 c b5 up).val / Pres.pB4 c b5 * 2) := by
  rw [Pres.quotientHigh, udiv_eq (Pres.pB4_range c b5).1]

theorem Pres.pQ0_of_low {c : Coefficients} {b5 up : Word} (h : (Pres.pB7 c b5 up).val < 2147483648) :
    Pres.pQ0 c b5 up = 2 * (Pres.pB7 c b5 up).val / Pres.pB4 c b5 := by
  rw [Pres.pB7_val] at h ⊢
  rw [Pres.pQ0_val, Wrapped.quotient, if_pos (by omega), Pres.pB4_val, mul_comm]

theorem Pres.pQ0_of_high {c : Coefficients} {b5 up : Word} (h : 2147483648 ≤ (Pres.pB7 c b5 up).val) :
    Pres.pQ0 c b5 up = 2 * ((Pres.pB7 c b5 up).val / Pres.pB4 c b5) % 4294967296 := by
  rw [Pres.pB7_val] at h ⊢
  rw [Pres.pQ0_val, Wrapped.quotient, if_neg (by omega), Pres.pB4_val, mul_comm]
  rfl

/-- Settles O27: the quotient of each branch, and in the high branch, where the doubled quotient fits, what
doubling after the division loses. -/
theorem carryBoundaryBranch : Obligations.CarryBoundaryBranch := by
  intro c b5 up h4 b7 b4
  have hpos : 0 < b4 := Pres.pB4_pos h4
  obtain ⟨hb7, hb7'⟩ : 0 ≤ b7 ∧ b7 ≤ 4294967295 := Pres.pB7_range c b5 up
  refine ⟨⟨Pres.pQ0_of_low, fun hhigh => ?_⟩, fun hhigh hne => ?_⟩
  · rw [Pres.pQ0_of_high hhigh]
    exact ⟨rfl, by omega⟩
  · have hfits : b7 / b4 * 2 ≤ b7 := ediv_mul_two_le hb7 (by omega)
    have hnonneg : 0 ≤ b7 / b4 := Int.ediv_nonneg hb7 hpos.le
    calc Pres.pQ0 c b5 up = 2 * (b7 / b4) % 4294967296 := Pres.pQ0_of_high hhigh
      _ = 2 * (b7 / b4) := Int.emod_eq_of_lt (by omega) (by omega)
      _ = 2 * b7 / b4 - (if b4 ≤ 2 * (b7 % b4) then 1 else 0) :=
        eq_sub_of_add_eq (two_mul_ediv hpos b7).symm

/-! ### Where the stages set their flags (R237) -/

theorem Pres.pB6_flags (b5 : Word) :
    ((Pres.pB6 b5).below = true ↔ b5.toInt < -2147479648) ∧ (Pres.pB6 b5).above = false := by
  obtain ⟨-, hb5⟩ : -2147483648 ≤ b5.toInt ∧ b5.toInt ≤ 2147483647 := sext32_range b5
  have hbelow : (Pres.pB6 b5).below = true ↔ b5.toInt - 4000 < -2147483648 := s32_below_iff _
  exact ⟨hbelow.trans (by omega), s32_above_eq_false (show b5.toInt - 4000 ≤ 2147483647 by omega)⟩

theorem Pres.pU_flags (c : Coefficients) (b5 : Word) :
    ((Pres.pU c b5).below = true ↔ Pres.pX3b c b5 < -32768) ∧ (Pres.pU c b5).above = false := by
  have hX3b := Pres.pX3b_range c b5
  have hV := Pres.pV_eq c b5
  have hbelow : (Pres.pU c b5).below = true ↔ (Pres.pV c b5).val < 0 := u32_below_iff _
  exact ⟨hbelow.trans (by omega), u32_above_eq_false (by omega)⟩

theorem Pres.pD_below_iff (c : Coefficients) (b5 up : Word) :
    (Pres.pD c b5 up).below = true ↔ up.toInt < Pres.pB3 c b5 :=
  (u32_below_iff _).trans sub_neg

theorem Pres.pB7_above_iff (c : Coefficients) (b5 up : Word) :
    (Pres.pB7 c b5 up).above = true ↔ 85900 ≤ (Pres.pD c b5 up).val := by
  have h : (Pres.pB7 c b5 up).above = true ↔ 4294967295 < (Pres.pD c b5 up).val * 50000 := u32_above_iff _
  exact h.trans (by omega)

/-- Only a quotient by 1 can leave u32 when it is doubled. -/
theorem Pres.quotientHigh_above_iff {c : Coefficients} {b5 : Word} (h4 : Pres.pB4 c b5 ≠ 0) (up : Word) :
    (Pres.quotientHigh c b5 up).above = true ↔
      Pres.pB4 c b5 = 1 ∧ 2147483648 ≤ (Pres.pB7 c b5 up).val := by
  have hpos := Pres.pB4_pos h4
  obtain ⟨hb7, hb7'⟩ := Pres.pB7_range c b5 up
  rw [Pres.quotientHigh_eq, u32_above_iff]
  by_cases h1 : Pres.pB4 c b5 = 1
  · rw [h1, Int.ediv_one]
    omega
  · have := ediv_mul_two_le hb7 (b := Pres.pB4 c b5) (by omega)
    omega

theorem Pres.p0_above_iff (c : Coefficients) (b5 up : Word) :
    (Pres.p0 c b5 up).above = true ↔ 2147483648 ≤ Pres.pQ0 c b5 up := s32_above_iff _

theorem Pres.pT_above_iff (p0 : Int) : (Pres.pT p0).above = true ↔ 706875 ≤ (Pres.pS p0).val := by
  have h : (Pres.pT p0).above = true ↔ 2147483647 < (Pres.pS p0).val * 3038 := s32_above_iff _
  exact h.trans (by omega)

theorem Pres.pY_flags (p0 : Int) :
    ((Pres.pY p0).below = true ↔ 291896 < p0) ∧ ((Pres.pY p0).above = true ↔ p0 < -291896) := by
  have hbelow : (Pres.pY p0).below = true ↔ -7357 * p0 < -2147483648 := s32_below_iff _
  have habove : (Pres.pY p0).above = true ↔ 2147483647 < -7357 * p0 := s32_above_iff _
  exact ⟨hbelow.trans (by omega), habove.trans (by omega)⟩

/-- Settles O25, stage by stage; P2 and P13 are squares. -/
theorem presFlagConditions : Obligations.PresFlagConditions := by
  intro c b5 up p0 _ _
  obtain ⟨hB6below, hB6above⟩ := Pres.pB6_flags b5
  obtain ⟨hUbelow, hUabove⟩ := Pres.pU_flags c b5
  exact ⟨hB6below, hB6above, (s32_above_iff _).trans (square_above_iff _), s32_square_below _,
    hUbelow, hUabove, Pres.pD_below_iff c b5 up, Pres.pB7_above_iff c b5 up,
    fun h4 => Pres.quotientHigh_above_iff h4 up, Pres.p0_above_iff c b5 up,
    (s32_above_iff _).trans (square_above_iff _), Pres.pT_above_iff p0, Pres.pY_flags p0⟩

/-! ### The frame (R220) -/

/-- Whichever way it ends, PRES writes P, PV, PERR, B7HI, OVF and UNF and nothing else, and sets of the last two
at most more. -/
theorem exec_pres_frame {s s' : State} (h : exec .pres s = .next s') :
    ∃ p pv perr b7hi ovf unf, s' = { s with p := p, status := { s.status with
      pv := pv
      perr := perr
      b7hi := b7hi
      ovf := s.status.ovf || ovf
      unf := s.status.unf || unf } } := by
  by_cases h4 : Wrapped.b4 s.cal s.b5 = 0
  · rw [exec_pres_of_b4_eq_zero h4] at h
    cases h
    exact ⟨_, _, _, _, _, _, rfl⟩
  · rw [presCommitsThePressure s h4] at h
    cases h
    exact ⟨_, _, _, _, _, _, rfl⟩

theorem readReg_setP_of_ne {r : Reg} (hp : r ≠ .p) (s : State) (p : Word) :
    readReg r (s.setP p) = readReg r s := by
  cases r
  case p => exact absurd rfl hp
  all_goals rfl

/-- Settles O29, from the frame of the whole state. -/
theorem presFrame : Obligations.PresFrame := by
  intro s s' h
  obtain ⟨p, pv, perr, b7hi, ovf, unf, rfl⟩ := exec_pres_frame h
  refine ⟨rfl, rfl, rfl, rfl, rfl, rfl, rfl, rfl, fun hovf => by simp [hovf], fun hunf => by simp [hunf],
    rfl, rfl, fun r hp hstatus => ?_⟩
  exact (readReg_withStatus hstatus (s.setP p) _).trans (readReg_setP_of_ne hp s p)

/-! ### Purity (R238) -/

/-- PV, PERR and, after a commit, P and B7HI, from the coefficients, B5 and the raw pressure alone. -/
theorem exec_pres_results {s s' : State} (h : exec .pres s = .next s') :
    s'.status.pv = !decide (Wrapped.b4 s.cal s.b5 = 0) ∧
    s'.status.perr = decide (Wrapped.b4 s.cal s.b5 = 0) ∧
    (s'.status.pv = true →
      s'.p = pattern32 (Wrapped.corrected (Wrapped.p0 s.cal s.b5 s.up)) ∧
      s'.status.b7hi = decide (2147483648 ≤ Wrapped.b7 s.cal s.b5 s.up)) := by
  by_cases h4 : Wrapped.b4 s.cal s.b5 = 0
  · rw [exec_pres_of_b4_eq_zero h4] at h
    cases h
    simp [h4]
  · rw [presCommitsThePressure s h4] at h
    cases h
    simp [h4, pattern32]

section
variable {c c' : Coefficients}

theorem Wrapped.b4_congr (h3 : c.ac3 = c'.ac3) (h4 : c.ac4 = c'.ac4) (hb1 : c.b1 = c'.b1) (b5 : Word) :
    Wrapped.b4 c b5 = Wrapped.b4 c' b5 := by
  simp only [Wrapped.b4, Wrapped.scaled, Wrapped.x3, h3, h4, hb1]

theorem Wrapped.b7_congr (h1 : c.ac1 = c'.ac1) (h2 : c.ac2 = c'.ac2) (hb2 : c.b2 = c'.b2) (b5 up : Word) :
    Wrapped.b7 c b5 up = Wrapped.b7 c' b5 up := by
  simp only [Wrapped.b7, Wrapped.difference, Wrapped.b3, h1, h2, hb2]

theorem Wrapped.p0_congr {b5 up : Word} (h4 : Wrapped.b4 c b5 = Wrapped.b4 c' b5)
    (h7 : Wrapped.b7 c b5 up = Wrapped.b7 c' b5 up) : Wrapped.p0 c b5 up = Wrapped.p0 c' b5 up := by
  simp only [Wrapped.p0, Wrapped.quotient, h4, h7]

end

/-- The second PRES finds the same inputs and records the same flags, which are sticky. -/
theorem exec_pres_idem {s s' : State} (h : exec .pres s = .next s') : exec .pres s' = .next s' := by
  by_cases h4 : Wrapped.b4 s.cal s.b5 = 0
  · rw [exec_pres_of_b4_eq_zero h4] at h
    cases h
    refine (exec_pres_of_b4_eq_zero ?_).trans ?_
    · exact h4
    · simp only [Bool.or_assoc, Bool.or_self]
  · rw [presCommitsThePressure s h4] at h
    cases h
    refine (presCommitsThePressure _ ?_).trans ?_
    · exact h4
    · simp only [Bool.or_assoc _ (_ || _), Bool.or_self]

/-- Settles O30: the results are those of B4, B7 and the quotient, which read the eight inputs alone. -/
theorem presIsPure : Obligations.PresIsPure := by
  refine ⟨fun s1 s2 s1' s2' hup hb5 h1 h2 h3 h4 hb1 hb2 he1 he2 => ?_, fun s s' h => ?_⟩
  · obtain ⟨hpv1, hperr1, hres1⟩ := exec_pres_results he1
    obtain ⟨hpv2, hperr2, hres2⟩ := exec_pres_results he2
    have hB4 := Wrapped.b4_congr h3 h4 hb1 s2.b5
    have hB7 := Wrapped.b7_congr h1 h2 hb2 s2.b5 s2.up
    rw [hb5, hB4] at hpv1 hperr1
    rw [hb5, hup, hB7, Wrapped.p0_congr hB4 hB7] at hres1
    have hpv := hpv1.trans hpv2.symm
    refine ⟨hpv, hperr1.trans hperr2.symm, fun hset => ?_⟩
    obtain ⟨hp1, hhi1⟩ := hres1 hset
    obtain ⟨hp2, hhi2⟩ := hres2 (hpv ▸ hset)
    exact ⟨hp1.trans hp2.symm, hhi1.trans hhi2.symm⟩
  · obtain ⟨hcal, -, hup, hb5, -⟩ := presFrame s s' h
    exact ⟨hup, hb5, hcal, exec_pres_idem h⟩

end Sys2Proof.Machine
end

section
/-! ## CalibrationError: entry, cause and the reset state (spec/60_exceptions.md)

The entry of each cause is the next state of the failing command. That nothing else leaves the cause's error flag
set is read off the results of the command, which write the flag as the check of the divisor decides. From reset
every factor is 0, and so is either divisor. -/

namespace Sys2Proof.Machine

/-! ### Cause 1 (R271) -/

theorem divisor_eq_zero_of_exec_temp_terr {s s' : State} (h : exec .temp s = .next s')
    (hterr : s'.status.terr = true) : Wrapped.divisor s.cal s.ut = 0 := by
  obtain ⟨-, hflag, -⟩ := exec_temp_results h
  exact of_decide_eq_true (hflag.symm.trans hterr)

theorem Wrapped.divisor_reset : Wrapped.divisor State.reset.cal State.reset.ut = 0 := by decide

/-- Settles O17: TERR is written as the divisor decides, and the divisor is 0 at reset. -/
theorem tempRaisesCalibrationError : Obligations.TempRaisesCalibrationError :=
  ⟨fun _ h0 => exec_temp_of_divisor_eq_zero h0, fun _ _ => divisor_eq_zero_of_exec_temp_terr,
    _, exec_temp_of_divisor_eq_zero Wrapped.divisor_reset, rfl⟩

/-! ### Cause 2 (R272) -/

theorem b4_eq_zero_of_exec_pres_perr {s s' : State} (h : exec .pres s = .next s')
    (hperr : s'.status.perr = true) : Wrapped.b4 s.cal s.b5 = 0 := by
  obtain ⟨-, hflag, -⟩ := exec_pres_results h
  exact of_decide_eq_true (hflag.symm.trans hperr)

/-- The zero condition of the stage, for the reference B4 (R230). -/
theorem Wrapped.b4_eq_zero_iff (c : Coefficients) (b5 : Word) :
    Wrapped.b4 c b5 = 0 ↔ c.ac4.toNat * (Pres.pU c b5).val % 4294967296 < 32768 := by
  obtain ⟨-, -, hzero⟩ := b4IsZeroExactlyBelow32768 c b5
  rwa [Pres.pB4_val] at hzero

theorem Wrapped.b4_reset : Wrapped.b4 State.reset.cal State.reset.b5 = 0 := by decide

/-- Settles O23: PERR is written as B4 decides, and B4 is 0 at reset. -/
theorem presRaisesCalibrationError : Obligations.PresRaisesCalibrationError :=
  ⟨fun _ h4 => exec_pres_of_b4_eq_zero h4, fun _ _ => b4_eq_zero_of_exec_pres_perr,
    fun s => Wrapped.b4_eq_zero_iff s.cal s.b5, _, exec_pres_of_b4_eq_zero Wrapped.b4_reset, rfl⟩

end Sys2Proof.Machine
end

section
/-! ## Reset, the host's order, and what a clean range guarantees (spec/70_reset_and_hazards.md)

Reset leaves one register file whatever came before (R300, R301). A host that keeps the order of R302 keeps an
invariant over its memory and the block: while it believes B5 current and STATUS shows TV, B5 is TEMP's value of
the present UT and coefficients. Where OVF and UNF stay clear (R307) no stage has left its type, so each stage
value is the exact result of the stage, and the block computes the formulas in the integers. -/

namespace Sys2Proof.Machine

/-! ### The host's order (R302, R304, R306) -/

/-- While the host believes B5 current and TV is set, B5 is what TEMP computes from the present inputs. -/
def HostTrack.B5Matches (h : HostTrack) (s : State) : Prop :=
  h.b5Current = true → s.status.tv = true →
    Wrapped.divisor s.cal s.ut ≠ 0 ∧ s.b5 = pattern32 (Wrapped.b5 s.cal s.ut)

theorem HostTrack.B5Matches.of_stale {h : HostTrack} (hb5 : h.b5Current = false) (s : State) :
    h.B5Matches s :=
  fun hcurrent => absurd (hb5.symm.trans hcurrent) Bool.false_ne_true

theorem HostTrack.after_decodeRead (h : HostTrack) (r : Reg) : h.after (decodeRead r) = h := by
  cases r <;> rfl

/-- A coefficient write makes B5 stale (R306). -/
theorem HostTrack.after_writeCoefficient {r : Reg} {d : Word} {i : Instr} (hr : (Reg.index r).toNat ≤ 10)
    (hi : decodeWrite r d = .ok i) (h : HostTrack) : h.after i = h.loads r := by
  cases r
  case ut | up | b5 | t | p | cmd | status => exact absurd hr (by decide)
  all_goals cases hi; rfl

/-- Every instruction keeps the match: what writes an input of TEMP or B5 makes B5 stale in the host's memory,
and a TEMP that fails clears TV. -/
theorem Effect.b5Matches {i : Instr} {s s' : State} (he : Effect i s s') {h : HostTrack}
    (hm : h.B5Matches s) : (h.after i).B5Matches s' := by
  cases he with
  | read r hi => rw [hi, HostTrack.after_decodeRead]; exact hm
  | writeCoefficient r d hr hi => rw [HostTrack.after_writeCoefficient hr hi]; exact .of_stale rfl _
  | writeUt d hi | writeB5 d hi => rw [hi]; exact .of_stale rfl _
  | writeUp d hi => rw [hi]; exact hm
  | nop hi | clr hi => rw [hi]; exact hm
  | tempError hi h0 => exact fun _ htv => absurd htv Bool.false_ne_true
  | tempCommit hi h0 => exact fun _ _ => ⟨h0, rfl⟩
  | presError hi h0 | presCommit hi h0 => rw [hi]; exact .of_stale rfl _

theorem hostRun_cons {i : Instr} {is : List Instr} {h : HostTrack} {s : State} {x : HostTrack × State}
    (hrun : hostRun (i :: is) h s = some x) :
    ∃ s', exec i s = .next s' ∧ hostRun is (h.after i) s' = some x := by
  obtain ⟨s', he⟩ := exists_effect i s
  simp only [hostRun, he.exec_eq, Option.ite_none_right_eq_some] at hrun
  exact ⟨s', he.exec_eq, hrun.2⟩

/-- What every instruction keeps holds after a run. -/
theorem hostRun_keeps {P : HostTrack → State → Prop}
    (hstep : ∀ i h s s', exec i s = .next s' → P h s → P (h.after i) s')
    {is : List Instr} {h h' : HostTrack} {s s' : State}
    (hrun : hostRun is h s = some (h', s')) (hP : P h s) : P h' s' := by
  induction is generalizing h s with
  | nil => cases hrun; exact hP
  | cons i is ih =>
    obtain ⟨t, he, hrest⟩ := hostRun_cons hrun
    exact ih hrest (hstep i h s t he hP)

/-- Settles O49: a session begins with B5 stale, every instruction keeps the match, and PRES is allowed only with
B5 current and TV set. -/
theorem orderedHostConvertsOneSample : Obligations.OrderedHostConvertsOneSample := by
  intro is s0 s h hrun hallows
  have hm : h.B5Matches s :=
    hostRun_keeps (fun _ _ _ _ he => (exec_iff_effect.mp he).b5Matches) hrun (.of_stale rfl s0)
  obtain ⟨⟨hcurrent, -⟩, htv⟩ : (h.b5Current = true ∧ h.upWritten = true) ∧ s.status.tv = true := by
    simpa [HostTrack.allows] using hallows
  exact hm hcurrent htv

/-! ### TEMP with UNF clear (R307) -/

theorem sext32_pattern32_of_range {r : Int} (h : -2147483648 ≤ r ∧ r ≤ 2147483647) :
    sext32 (pattern32 r) = r :=
  (sext32_pattern32 r).trans (wrapS32_of_range h)

theorem product_ge_of_exec_temp_unf_clear {s s' : State} (h : exec .temp s = .next s')
    (hunf : s'.status.unf = false) : -2147483648 ≤ Wrapped.product s.cal s.ut := by
  obtain ⟨_, _, _, _, rfl⟩ := exec_temp_frame h
  obtain ⟨-, hproduct⟩ := Bool.or_eq_false_iff.mp hunf
  exact not_lt.mp (of_decide_eq_false hproduct)

section
variable {c : Coefficients} {ut : Half}

/-- Only the product of stage T2 can leave its type, and only below. -/
theorem Wrapped.x1_eq_exact (h : -2147483648 ≤ Wrapped.product c ut) :
    Wrapped.x1 c ut = Exact.x1 c ut := by
  have hhi := (Wrapped.product_range c ut).2
  exact congrArg (· / 2 ^ 15) (wrapS32_of_range ⟨h, by omega⟩)

theorem Wrapped.divisor_eq_exact (h : -2147483648 ≤ Wrapped.product c ut) :
    Wrapped.divisor c ut = Exact.divisor c ut :=
  congrArg (· + sext16 c.md) (Wrapped.x1_eq_exact h)

theorem Wrapped.b5_eq_exact (h : -2147483648 ≤ Wrapped.product c ut) :
    Wrapped.b5 c ut = Exact.b5 c ut := by
  rw [Wrapped.b5, Wrapped.x1_eq_exact h, Wrapped.divisor_eq_exact h]
  rfl

end

/-- Settles O21: with UNF clear the product is exact, so the formulas in 32-bit arithmetic are the exact ones, and
their results lie in s32. -/
theorem tempAgreesWithBand1 : Obligations.TempAgreesWithBand1 := by
  intro s s' h htv hunf
  have hproduct := product_ge_of_exec_temp_unf_clear h hunf
  obtain ⟨hflag, -, hresults⟩ := exec_temp_results h
  obtain ⟨hb5, ht⟩ := hresults htv
  have h0 : Wrapped.divisor s.cal s.ut ≠ 0 := by simpa [htv] using hflag
  obtain ⟨-, hlo, hhi⟩ := Temp.tB5_val s.cal s.ut h0
  rw [hb5, ht, Exact.temperature, ← Wrapped.divisor_eq_exact hproduct, ← Wrapped.b5_eq_exact hproduct]
  exact ⟨h0, sext32_pattern32_of_range (by omega), sext32_pattern32_of_range (by omega)⟩

/-! ### Stages that set no flag are exact (R307) -/

/-- No stage of the list left the range of its type. -/
def StagesClean (l : List StageResult) : Prop := ∀ x ∈ l, x.above = false ∧ x.below = false

theorem StagesClean.s32_val {l : List StageResult} (h : StagesClean l) {r : Int} (hr : s32 r ∈ l) :
    (s32 r).val = r :=
  s32_val_of_flags (h _ hr).1 (h _ hr).2

theorem StagesClean.u32_val {l : List StageResult} (h : StagesClean l) {r : Int} (hr : u32 r ∈ l) :
    (u32 r).val = r :=
  u32_val_of_flags (h _ hr).1 (h _ hr).2

theorem stagesClean_append {l m : List StageResult} :
    StagesClean (l ++ m) ↔ StagesClean l ∧ StagesClean m := List.forall_mem_append

/-- OVF and UNF clear after recording a list say that all of it is clean. -/
theorem stagesClean_of_recordRange {f : Status} {l : List StageResult}
    (hovf : (f.recordRange l).ovf = false) (hunf : (f.recordRange l).unf = false) : StagesClean l := by
  rw [Status.recordRange_ovf, Bool.or_eq_false_iff, List.any_eq_false] at hovf
  rw [Status.recordRange_unf, Bool.or_eq_false_iff, List.any_eq_false] at hunf
  exact fun x hx => ⟨Bool.eq_false_of_not_eq_true (hovf.2 x hx), Bool.eq_false_of_not_eq_true (hunf.2 x hx)⟩

/-! ### Stages P1 to P11 with no flag set -/

section
variable {c : Coefficients} {b5 up : Word} (h : StagesClean (Pres.beforeCheck c b5 up))
include h

theorem Pres.pB6_eq_exact : (Pres.pB6 b5).val = Exact.b6 (sext32 b5) :=
  h.s32_val (show Pres.pB6 b5 ∈ _ by simp [Pres.beforeCheck])

theorem Pres.pK_eq_exact : Pres.pK b5 = Exact.b6 (sext32 b5) * Exact.b6 (sext32 b5) / 2 ^ 12 := by
  have hQ : (Pres.pQ b5).val = (Pres.pB6 b5).val * (Pres.pB6 b5).val :=
    h.s32_val (show Pres.pQ b5 ∈ _ by simp [Pres.beforeCheck])
  rw [Pres.pK, asr_eq, hQ, Pres.pB6_eq_exact h]

theorem Pres.pX1a_eq_exact :
    Pres.pX1a c b5 =
      sext16 c.b2 * (Exact.b6 (sext32 b5) * Exact.b6 (sext32 b5) / 2 ^ 12) / 2 ^ 11 := by
  have hM1 : (Pres.pM1 c b5).val = sext16 c.b2 * Pres.pK b5 :=
    h.s32_val (show Pres.pM1 c b5 ∈ _ by simp [Pres.beforeCheck])
  rw [Pres.pX1a, asr_eq, hM1, Pres.pK_eq_exact h]

theorem Pres.pX2a_eq_exact : Pres.pX2a c b5 = sext16 c.ac2 * Exact.b6 (sext32 b5) / 2 ^ 11 := by
  have hM2 : (Pres.pM2 c b5).val = sext16 c.ac2 * (Pres.pB6 b5).val :=
    h.s32_val (show Pres.pM2 c b5 ∈ _ by simp [Pres.beforeCheck])
  rw [Pres.pX2a, asr_eq, hM2, Pres.pB6_eq_exact h]

theorem Pres.pB3_eq_exact : Pres.pB3 c b5 = Exact.b3 c (sext32 b5) := by
  rw [Pres.pB3, asr_eq, Pres.pI_val, Pres.pX1a_eq_exact h, Pres.pX2a_eq_exact h]
  rfl

theorem Pres.pX1b_eq_exact : Pres.pX1b c b5 = sext16 c.ac3 * Exact.b6 (sext32 b5) / 2 ^ 13 := by
  have hM3 : (Pres.pM3 c b5).val = sext16 c.ac3 * (Pres.pB6 b5).val :=
    h.s32_val (show Pres.pM3 c b5 ∈ _ by simp [Pres.beforeCheck])
  rw [Pres.pX1b, asr_eq, hM3, Pres.pB6_eq_exact h]

theorem Pres.pX2b_eq_exact :
    Pres.pX2b c b5 =
      sext16 c.b1 * (Exact.b6 (sext32 b5) * Exact.b6 (sext32 b5) / 2 ^ 12) / 2 ^ 16 := by
  have hM4 : (Pres.pM4 c b5).val = sext16 c.b1 * Pres.pK b5 :=
    h.s32_val (show Pres.pM4 c b5 ∈ _ by simp [Pres.beforeCheck])
  rw [Pres.pX2b, asr_eq, hM4, Pres.pK_eq_exact h]

theorem Pres.pB4_eq_exact : Pres.pB4 c b5 = Exact.b4 c (sext32 b5) := by
  have hU : (Pres.pU c b5).val = (Pres.pV c b5).val :=
    h.u32_val (show Pres.pU c b5 ∈ _ by simp [Pres.beforeCheck])
  have hW : (Pres.pW c b5).val = zext16 c.ac4 * (Pres.pU c b5).val :=
    h.u32_val (show Pres.pW c b5 ∈ _ by simp [Pres.beforeCheck])
  rw [Pres.pB4, lsr_eq, hW, hU, Pres.pV_eq, Pres.pX3b, asr_eq, Pres.pN_val, Pres.pX1b_eq_exact h,
    Pres.pX2b_eq_exact h]
  rfl

theorem Pres.pB7_eq_exact : (Pres.pB7 c b5 up).val = Exact.b7 c (sext32 b5) (sext32 up) := by
  have hD : (Pres.pD c b5 up).val = sext32 up - Pres.pB3 c b5 :=
    h.u32_val (show Pres.pD c b5 up ∈ _ by simp [Pres.beforeCheck])
  have hB7 : (Pres.pB7 c b5 up).val = (Pres.pD c b5 up).val * lsr 50000 Config.oss :=
    h.u32_val (show Pres.pB7 c b5 up ∈ _ by simp [Pres.beforeCheck])
  rw [hB7, hD, Pres.pB3_eq_exact h]
  rfl

/-! ### Stages P12 to P15 with no flag set -/

/-- The quotient of the branch taken: the doubling of the low branch is always exact, that of the high branch is
where its stage is clean. -/
theorem Pres.pQ0_eq_exact (hafter : StagesClean (Pres.afterCheck c b5 up)) :
    Pres.pQ0 c b5 up = Exact.quotient c (sext32 b5) (sext32 up) := by
  rw [Exact.quotient, ← Pres.pB7_eq_exact h, ← Pres.pB4_eq_exact h]
  split
  next hlow => rw [Pres.pQ0_of_low hlow, mul_comm]
  next hhigh =>
    have hhi : Pres.hi c b5 up = true := decide_eq_true (not_lt.mp hhigh)
    have hval : (Pres.quotientHigh c b5 up).val = udiv (Pres.pB7 c b5 up).val (Pres.pB4 c b5) * 2 :=
      hafter.u32_val (show Pres.quotientHigh c b5 up ∈ _ by simp [Pres.afterCheck, Pres.branchStage, hhi])
    rw [udiv_eq (Pres.pB4_range c b5).1] at hval
    simpa only [Pres.pQ0, hhi] using hval

end

theorem Pres.p0_eq_of_clean {c : Coefficients} {b5 up : Word} (h : StagesClean (Pres.afterCheck c b5 up)) :
    (Pres.p0 c b5 up).val = Pres.pQ0 c b5 up :=
  h.s32_val (show Pres.p0 c b5 up ∈ _ by simp [Pres.afterCheck])

theorem Pres.pP_eq_exact {p0 : Int} (h : StagesClean (Pres.correctionStages p0)) :
    (Pres.pP p0).val = Exact.correct p0 := by
  have hS : (Pres.pS p0).val = Pres.pR p0 * Pres.pR p0 :=
    h.s32_val (show Pres.pS p0 ∈ _ by simp [Pres.correctionStages])
  have hT : (Pres.pT p0).val = (Pres.pS p0).val * 3038 :=
    h.s32_val (show Pres.pT p0 ∈ _ by simp [Pres.correctionStages])
  have hY : (Pres.pY p0).val = -7357 * p0 :=
    h.s32_val (show Pres.pY p0 ∈ _ by simp [Pres.correctionStages])
  have hP : (Pres.pP p0).val = p0 + Pres.pZ3 p0 :=
    h.s32_val (show Pres.pP p0 ∈ _ by simp [Pres.correctionStages])
  rw [hP, Pres.pZ3, asr_eq, Pres.pZ2_val, Pres.pX1c, asr_eq, hT, hS, Pres.pR, asr_eq, Pres.pX2c, asr_eq, hY]
  rfl

/-! ### PRES with OVF and UNF clear -/

/-- PRES ends with PV set only by its commit (R236, R274). -/
theorem exec_pres_commit_of_pv {s s' : State} (h : exec .pres s = .next s') (hpv : s'.status.pv = true) :
    Pres.pB4 s.cal s.b5 ≠ 0 ∧
      s' = (s.recordRange (Pres.beforeCheck s.cal s.b5 s.up ++ Pres.afterCheck s.cal s.b5 s.up)).commitPres
        (pattern32 (Pres.pP (Pres.p0 s.cal s.b5 s.up).val).val) (Pres.hi s.cal s.b5 s.up) := by
  obtain ⟨hflag, -, -⟩ := exec_pres_results h
  have h4 : Wrapped.b4 s.cal s.b5 ≠ 0 := by simpa [hpv] using hflag
  have hnext := (Effect.presCommit rfl h4).exec_eq.symm.trans h
  rw [Pres.pB4_val]
  exact ⟨h4, (Host.Outcome.next.inj hnext).symm⟩

/-- Settles O31: with OVF and UNF clear every stage is exact, from B6 to the final sum, which is an s32. -/
theorem presAgreesWithTheVendorFormula : Obligations.PresAgreesWithTheVendorFormula := by
  intro s s' h hpv hovf hunf
  obtain ⟨h4, rfl⟩ := exec_pres_commit_of_pv h hpv
  obtain ⟨hbefore, hafter⟩ := stagesClean_append.mp (stagesClean_of_recordRange hovf hunf)
  have hcorrection : StagesClean (Pres.correctionStages (Pres.p0 s.cal s.b5 s.up).val) :=
    (stagesClean_append.mp hafter).2
  rw [Pres.pB4_eq_exact hbefore] at h4
  refine ⟨h4, ?_, ?_⟩
  · have hP : sext32 (pattern32 (Pres.pP (Pres.p0 s.cal s.b5 s.up).val).val) =
        (Pres.pP (Pres.p0 s.cal s.b5 s.up).val).val := sext32_pattern32_of_range (s32_range _)
    rw [State.commitPres_p, hP, Pres.pP_eq_exact hcorrection, Pres.p0_eq_of_clean hafter,
      Pres.pQ0_eq_exact hbefore hafter]
    rfl
  · rw [State.commitPres_status, Status.presDone_b7hi, Pres.hi, decide_eq_true_iff,
      Pres.pB7_eq_exact hbefore]

/-! ### Reset (R300, R301) -/

theorem Status.toWord_zero : Status.zero.toWord = 0#32 := by decide

theorem readReg_applyReset (r : Reg) (s : State) : readReg r s.applyReset = 0#32 := by
  cases r
  case status => exact Status.toWord_zero
  all_goals rfl

/-- Settles O38: the reset state is what reset leaves of itself, its port is empty, and both divisors are 0 with
no range flag set on the way. -/
theorem resetZeroesEveryRegister : Obligations.ResetZeroesEveryRegister := by
  refine ⟨fun r => readReg_applyReset r State.reset, step_idle rfl,
    exec_temp_of_divisor_eq_zero Wrapped.divisor_reset, ?_⟩
  have hovf : Wrapped.ovfBefore State.reset.cal State.reset.b5 State.reset.up = false := by decide
  have hunf : Wrapped.unfBefore State.reset.cal State.reset.b5 State.reset.up = false := by decide
  rw [exec_pres_of_b4_eq_zero Wrapped.b4_reset, hovf, hunf]
  rfl

theorem step_reset {s : State} {q : Option Request} {rest : List PortEvent}
    (hp : s.port = .reset q :: rest) : step s = .next (s.withPort rest).applyReset := by
  simp only [step, hp]

/-- Settles O39: a reset event applies reset to the state with the event taken from the port. -/
theorem resetEventZeroesEveryRegister : Obligations.ResetEventZeroesEveryRegister :=
  fun _ _ _ hp => ⟨_, step_reset hp, fun r => readReg_applyReset r _, rfl, rfl⟩

/-- Settles O48, since reset has the invariant in whatever state it is applied. -/
theorem resetHasTheInvariant : Obligations.ResetHasTheInvariant :=
  State.inv_applyReset State.reset

theorem cycle_reset (lat : Latencies) {i : PortIn} (hrst : i.rst = true) (c : Clocked) :
    cycle lat i c =
      .next ({ reqReady := false, rsp := none }, { block := c.block.applyReset, inFlight := none }) := by
  simp [cycle, hrst]

/-- Settles O52: a cycle with `rst` high applies reset to the block and holds no request. -/
theorem resetAbandonsTheRequestInFlight : Obligations.ResetAbandonsTheRequestInFlight :=
  fun lat _ c hrst =>
    ⟨_, cycle_reset lat hrst c, rfl, rfl, rfl, rfl, fun r => readReg_applyReset r c.block⟩

end Sys2Proof.Machine
end
